-- ==== Sys2Proof/Word.lean ====
section
/-!
DEFINITION. The smallest data of the block: the level of a line, the selector words, the packed words of the
spec's two exchange formats, and the input levels of one cycle.
-/
namespace Sys2Proof

/-- The level of a line or of a one-bit register: `false` is 0, `true` is 1 (30_encoding.md R52). -/
abbrev Level := Bool

/-- Reset selector `rsel[0]` (30_encoding.md R55). -/
abbrev Rsel := BitVec 1

/-- Latch selector `lsel[2:0]` (30_encoding.md R55). -/
abbrev Lsel := BitVec 3

/-- Sequencer selector `ssel[7:0]` (30_encoding.md R55). -/
abbrev Ssel := BitVec 8

/-- A preset record packed into one word (30_encoding.md R53). -/
abbrev PresetWord := BitVec 128

/-- A stimulus word (30_encoding.md R62). -/
abbrev StimWord := BitVec 32

/-- The levels of the four sampled inputs at the clock edge that ends a cycle (40_cycle_step.md R70,
20_memory.md R36). The three `…N` lines are active-low (20_memory.md R37). -/
structure Inputs where
  rst : Level
  rampN : Level
  tcN : Level
  stepN : Level
deriving DecidableEq, Repr, Inhabited

end Sys2Proof
end

