-- ==== Sys2Proof/Syntax.lean ====
section
/-!
DEFINITION. The names of the block: motor states, sequencer phases, input lines, selectors, and the 27
operations that stand for its instructions (30_encoding.md R55 to R58), one constructor per row of the table.
-/
namespace Sys2Proof

/-- The MotorState, in the order of the source's enumeration (30_encoding.md R50). -/
inductive MotorState where
  | off
  | on
  | rampingUp
  | pendingOff
deriving DecidableEq, Repr

/-- The sequencer phase, what stands for a program counter (10_state.md R14). -/
inductive Phase where
  | dispatch
  | tc
  | tcSettle
  | step
  | stepSettle
  | poffSettle
  | rampOn
  | rampOff
deriving DecidableEq, Repr

/-- The three input lines that `LineRead` names (20_memory.md R37). -/
inductive LineId where
  | rampN
  | tcN
  | stepN
deriving DecidableEq, Repr

/-- A selector: which of the three tables it belongs to, and its bits (30_encoding.md R55). -/
inductive Selector where
  | rsel (b : Rsel)
  | lsel (b : Lsel)
  | ssel (b : Ssel)
deriving DecidableEq, Repr

/-- The three selector tables (30_encoding.md R56 to R58). -/
inductive SelKind where
  | rsel
  | lsel
  | ssel
deriving DecidableEq, Repr

/-- The 27 operations. No operation names an operand or carries an immediate (10_state.md R22,
30_encoding.md R54), so no constructor has an argument. -/
inductive Instr where
  -- reset selector (30_encoding.md R58)
  | reset
  -- latch selector (30_encoding.md R56)
  | latchIdle
  | irqStart
  | irqStop
  | irqNop
  -- sequencer selector (30_encoding.md R57)
  | dispIdle
  | rampBegin
  | poffHeld
  | poffRel
  | tcPress
  | tcHeld
  | tcRelease
  | tcWait
  | tcFire
  | stepPress
  | stepHeld
  | stepRelease
  | stepWait
  | stepFireOn
  | stepFireOff
  | stepFireNop
  | poffWait
  | poffFire
  | rampOnWait
  | rampOnEnd
  | rampOffWait
  | rampOffEnd
deriving DecidableEq, Repr

end Sys2Proof
end

