-- ==== Sys2Proof/Config.lean ====
section
/-!
DEFINITION. The configuration record `Cfg` of 00_scope.md R5 with the preset table (20_memory.md R31, R32), the
spec's two instantiations REF and TINY, and the free values. The record is plain data and may be ill-formed: the
check is `Cfg.WellFormed` (WellFormed.lean).
-/
namespace Sys2Proof

/-- One record of the preset table as `PresetRead` returns it (20_memory.md R31). -/
structure Preset where
  /-- `N[p]`, the step count. -/
  n : Nat
  /-- `SLOPE[p]`, raw fixed point with `FRAC` fractional bits. -/
  slope : Nat
  /-- `OFFSET[p]`, cycles added to every on-time. -/
  offset : Nat
  /-- `TH[p][1]`, threshold of LED1. -/
  th1 : Nat
  /-- `TH[p][2]`, threshold of LED2. -/
  th2 : Nat
  /-- `TH[p][3]`, threshold of LED3. -/
  th3 : Nat
  /-- `TH[p][4]`, threshold of LED4. -/
  th4 : Nat
deriving DecidableEq, Repr

/-- The configuration record `Cfg` (00_scope.md R5). Exactly four presets: the source supports no more. -/
structure Cfg where
  /-- `CLK_PER_MS`. -/
  clkPerMs : Nat
  /-- `SETTLE`, cycles of the 10 ms settle delay. -/
  settle : Nat
  /-- `PERIOD`, cycles of one PWM period. -/
  period : Nat
  /-- `W_T`, width of `timer`. -/
  wT : Nat
  /-- `W_I`, width of `i`. -/
  wI : Nat
  /-- Preset 0. -/
  p0 : Preset
  /-- Preset 1. -/
  p1 : Preset
  /-- Preset 2. -/
  p2 : Preset
  /-- Preset 3. -/
  p3 : Preset
  /-- `DUR_MS[0..3]`, informational: no rule reads it (00_scope.md R5). -/
  durMs0 : Nat
  durMs1 : Nat
  durMs2 : Nat
  durMs3 : Nat
deriving DecidableEq, Repr

/-- `FRAC`, the fractional bits of `SLOPE`: fixed at 8 (00_scope.md R5). -/
def Config.frac : Nat := 8

/-- The spec's reference instantiation REF (00_scope.md R5, 92_eei_decisions.md D16). -/
def Config.ref : Cfg where
  clkPerMs := 1000
  settle := 10000
  period := 20000
  wT := 16
  wI := 8
  p0 := ⟨250, 0x4C00, 1000, 50, 100, 150, 200⟩
  p1 := ⟨125, 0x9800, 1000, 25, 50, 75, 100⟩
  p2 := ⟨50, 0x17C00, 1000, 10, 20, 30, 40⟩
  p3 := ⟨25, 0x2F800, 1000, 5, 10, 15, 20⟩
  durMs0 := 5000
  durMs1 := 2500
  durMs2 := 1000
  durMs3 := 500

/-- The spec's small instantiation TINY (00_scope.md R5). -/
def Config.tiny : Cfg where
  clkPerMs := 1
  settle := 10
  period := 16
  wT := 5
  wI := 4
  p0 := ⟨5, 0x300, 1, 1, 2, 3, 4⟩
  p1 := ⟨12, 0x140, 1, 3, 5, 8, 10⟩
  p2 := ⟨3, 0x580, 1, 1, 2, 2, 3⟩
  p3 := ⟨2, 0xF00, 1, 1, 1, 2, 2⟩
  durMs0 := 80
  durMs1 := 192
  durMs2 := 48
  durMs3 := 32

/-- FREE VALUE (DESIGN CHOICE, log 3): the input levels the environment drives in cycle `t` when no stimulus word
gives them. 70_reset_and_hazards.md R185 leaves the environment any input sequence, so nothing constrains it. -/
opaque Config.lineLevels : Nat → Inputs

/-- FREE VALUE (DESIGN CHOICE, log 5): what `a - b` gives when `b` is above `a`. All values are unsigned
(00_scope.md R7) and the spec says only that no subtraction wraps (44_ramp_engine.md R140 b, f). -/
opaque Config.belowZero : Nat → Nat → Nat

end Sys2Proof
end

