-- ==== Sys2Proof/Decode.lean ====
section
/-!
DEFINITION. Every encoding of 30_encoding.md: the codes of the motor state and of the phase (R50, R51), the decode of
the three selectors (R55 to R59), the encoder and the mask-and-match table it is written from, the packed preset
word (R53), the stimulus word (R62), and the host's reading of a bare opcode-table number.
-/
namespace Sys2Proof

/-! ## State encodings (R50, R51) -/

/-- The code of a motor state (30_encoding.md R50). -/
def MotorState.toBits : MotorState → BitVec 2
  | .off => 0b00#2
  | .on => 0b01#2
  | .rampingUp => 0b10#2
  | .pendingOff => 0b11#2

/-- The motor state of a code; all four codes are legal (30_encoding.md R50, R59). -/
def MotorState.ofBits (b : BitVec 2) : MotorState :=
  if b = 0b00#2 then .off else if b = 0b01#2 then .on else if b = 0b10#2 then .rampingUp else .pendingOff

/-- The code of a phase (30_encoding.md R51). -/
def Phase.toBits : Phase → BitVec 3
  | .dispatch => 0b000#3
  | .tc => 0b001#3
  | .tcSettle => 0b010#3
  | .step => 0b011#3
  | .stepSettle => 0b100#3
  | .poffSettle => 0b101#3
  | .rampOn => 0b110#3
  | .rampOff => 0b111#3

/-- The phase of a code; all eight codes are used (30_encoding.md R51). -/
def Phase.ofBits (b : BitVec 3) : Phase :=
  if b = 0b000#3 then .dispatch else if b = 0b001#3 then .tc
  else if b = 0b010#3 then .tcSettle else if b = 0b011#3 then .step
  else if b = 0b100#3 then .stepSettle else if b = 0b101#3 then .poffSettle
  else if b = 0b110#3 then .rampOn else .rampOff

/-! ## Decode (R55 to R59) -/

/-- Why a selector names no operation. -/
inductive DecodeReject where
  /-- `rsel` = 0: the reset table has no row for it; the latch and sequencer tables apply (30_encoding.md R58).
  The error is the model's form of that (DESIGN CHOICE, log 18). -/
  | resetNotAsserted
deriving DecidableEq, Repr

/-- The latch operation for `edge` and the motor state (30_encoding.md R56). -/
def selectLatch (edge : Bool) (ms : MotorState) : Instr :=
  match edge, ms with
  | false, _ => .latchIdle
  | true, .off => .irqStart
  | true, .on => .irqStop
  | true, .rampingUp => .irqNop
  | true, .pendingOff => .irqNop

/-- The sequencer operation for the phase, `tz`, `lvl`, `lat` and the motor state after the latch
(30_encoding.md R57). -/
def selectSeq (ph : Phase) (tz lvl lat : Bool) (ms1 : MotorState) : Instr :=
  match ph with
  | .dispatch =>
    match ms1 with
    | .off => .dispIdle
    | .on => .dispIdle
    | .rampingUp => .rampBegin
    | .pendingOff => if lvl then .poffRel else .poffHeld
  | .tc => if lvl then .tcRelease else if lat then .tcHeld else .tcPress
  | .tcSettle => if tz then .tcFire else .tcWait
  | .step => if lvl then .stepRelease else if lat then .stepHeld else .stepPress
  | .stepSettle =>
    if tz then
      match ms1 with
      | .off => .stepFireOn
      | .on => .stepFireOff
      | .rampingUp => .stepFireNop
      | .pendingOff => .stepFireNop
    else .stepWait
  | .poffSettle => if tz then .poffFire else .poffWait
  | .rampOn => if tz then .rampOnEnd else .rampOnWait
  | .rampOff => if tz then .rampOffEnd else .rampOffWait

/-- Decode of `lsel` = (`edge`, `ms[1:0]`), total (30_encoding.md R56, R59). -/
def decodeLsel (b : Lsel) : Instr :=
  selectLatch (b.getLsbD 2) (MotorState.ofBits (b.extractLsb' 0 2))

/-- Decode of `ssel` = (`ph[2:0]`, `tz`, `lvl`, `lat`, `ms1[1:0]`), total (30_encoding.md R57, R59). -/
def decodeSsel (b : Ssel) : Instr :=
  selectSeq (Phase.ofBits (b.extractLsb' 5 3)) (b.getLsbD 4) (b.getLsbD 3) (b.getLsbD 2)
    (MotorState.ofBits (b.extractLsb' 0 2))

/-- Decode of any selector; the one value with no operation, `rsel` = 0, is rejected by
name (30_encoding.md R55 to R59; the error is a DESIGN CHOICE, log 18). -/
def decode : Selector → Except DecodeReject Instr
  | .rsel b => if b = 1#1 then .ok .reset else .error .resetNotAsserted
  | .lsel b => .ok (decodeLsel b)
  | .ssel b => .ok (decodeSsel b)

/-! ## The operation table and the encoder (R56 to R58) -/

/-- A row of the operation tables: its selector, and its `match` and `mask` columns on the selector's bits extended
with zeros to eight (30_encoding.md R56 to R58, opcode_table.json). -/
structure OpRow where
  kind : SelKind
  matchBits : BitVec 8
  maskBits : BitVec 8
deriving DecidableEq, Repr

/-- The row of each operation, copied from the tables of 30_encoding.md R56 to R58. -/
def Instr.row : Instr → OpRow
  | .reset => ⟨.rsel, 0x1#8, 0x1#8⟩
  | .latchIdle => ⟨.lsel, 0x0#8, 0x4#8⟩
  | .irqStart => ⟨.lsel, 0x4#8, 0x7#8⟩
  | .irqStop => ⟨.lsel, 0x5#8, 0x7#8⟩
  | .irqNop => ⟨.lsel, 0x6#8, 0x6#8⟩
  | .dispIdle => ⟨.ssel, 0x00#8, 0xE2#8⟩
  | .rampBegin => ⟨.ssel, 0x02#8, 0xE3#8⟩
  | .poffHeld => ⟨.ssel, 0x03#8, 0xEB#8⟩
  | .poffRel => ⟨.ssel, 0x0B#8, 0xEB#8⟩
  | .tcPress => ⟨.ssel, 0x20#8, 0xEC#8⟩
  | .tcHeld => ⟨.ssel, 0x24#8, 0xEC#8⟩
  | .tcRelease => ⟨.ssel, 0x28#8, 0xE8#8⟩
  | .tcWait => ⟨.ssel, 0x40#8, 0xF0#8⟩
  | .tcFire => ⟨.ssel, 0x50#8, 0xF0#8⟩
  | .stepPress => ⟨.ssel, 0x60#8, 0xEC#8⟩
  | .stepHeld => ⟨.ssel, 0x64#8, 0xEC#8⟩
  | .stepRelease => ⟨.ssel, 0x68#8, 0xE8#8⟩
  | .stepWait => ⟨.ssel, 0x80#8, 0xF0#8⟩
  | .stepFireOn => ⟨.ssel, 0x90#8, 0xF3#8⟩
  | .stepFireOff => ⟨.ssel, 0x91#8, 0xF3#8⟩
  | .stepFireNop => ⟨.ssel, 0x92#8, 0xF2#8⟩
  | .poffWait => ⟨.ssel, 0xA0#8, 0xF0#8⟩
  | .poffFire => ⟨.ssel, 0xB0#8, 0xF0#8⟩
  | .rampOnWait => ⟨.ssel, 0xC0#8, 0xF0#8⟩
  | .rampOnEnd => ⟨.ssel, 0xD0#8, 0xF0#8⟩
  | .rampOffWait => ⟨.ssel, 0xE0#8, 0xF0#8⟩
  | .rampOffEnd => ⟨.ssel, 0xF0#8, 0xF0#8⟩

/-- The table a selector belongs to. -/
def Selector.kind : Selector → SelKind
  | .rsel _ => .rsel
  | .lsel _ => .lsel
  | .ssel _ => .ssel

/-- The bits of a selector, extended with zeros to eight. -/
def Selector.bits : Selector → BitVec 8
  | .rsel b => b.setWidth 8
  | .lsel b => b.setWidth 8
  | .ssel b => b

/-- A row matches a selector of its table when `(selector & mask) == match` (30_encoding.md R55). -/
abbrev OpRow.Matches (r : OpRow) (sel : Selector) : Prop :=
  r.kind = sel.kind ∧ sel.bits &&& r.maskBits = r.matchBits

/-- The selector of a table made from the low bits of `b`. -/
def Selector.make (k : SelKind) (b : BitVec 8) : Selector :=
  match k with
  | .rsel => .rsel (b.setWidth 1)
  | .lsel => .lsel (b.setWidth 3)
  | .ssel => .ssel b

/-- The encoder with the unexamined bits of the row taken from `fill`: every word of the operation is
`encodeWith i fill` for some `fill` (30_encoding.md R55 to R58). -/
def encodeWith (i : Instr) (fill : BitVec 8) : Selector :=
  Selector.make i.row.kind (i.row.matchBits ||| (fill &&& ~~~ i.row.maskBits))

/-- The encoder: the operation's word with every unexamined bit 0. -/
def encode (i : Instr) : Selector :=
  encodeWith i 0#8

/-! ## Preset word (R53) -/

/-- The record that a preset word packs (30_encoding.md R53). The reserved field is checked where a table is loaded
(Machine/Boot.lean). -/
def PresetWord.toPreset (w : PresetWord) : Preset where
  n := (w.extractLsb' 0 16).toNat
  slope := (w.extractLsb' 16 24).toNat
  offset := (w.extractLsb' 40 16).toNat
  th1 := (w.extractLsb' 56 16).toNat
  th2 := (w.extractLsb' 72 16).toNat
  th3 := (w.extractLsb' 88 16).toNat
  th4 := (w.extractLsb' 104 16).toNat

/-- The reserved field [127:120] of a preset word (30_encoding.md R53). -/
def PresetWord.reserved (w : PresetWord) : BitVec 8 :=
  w.extractLsb' 120 8

/-- Whether the fields of a record fit the widths of the packed word (30_encoding.md R53). -/
abbrev Preset.Packable (r : Preset) : Prop :=
  r.n < 2 ^ 16 ∧ r.slope < 2 ^ 24 ∧ r.offset < 2 ^ 16 ∧
    r.th1 < 2 ^ 16 ∧ r.th2 < 2 ^ 16 ∧ r.th3 < 2 ^ 16 ∧ r.th4 < 2 ^ 16

/-- The packed word of a record whose fields fit, reserved bits zero (30_encoding.md R53). -/
def Preset.toWord (r : Preset) : PresetWord :=
  0#8 ++ BitVec.ofNat 16 r.th4 ++ BitVec.ofNat 16 r.th3 ++ BitVec.ofNat 16 r.th2 ++ BitVec.ofNat 16 r.th1
    ++ BitVec.ofNat 16 r.offset ++ BitVec.ofNat 24 r.slope ++ BitVec.ofNat 16 r.n

/-! ## Stimulus word (R62) -/

/-- The count field [31:4] of a stimulus word (30_encoding.md R62). -/
def StimWord.count (w : StimWord) : BitVec 28 :=
  w.extractLsb' 4 28

/-- The input levels of a stimulus word (30_encoding.md R62). -/
def StimWord.levels (w : StimWord) : Inputs where
  rst := w.getLsbD 3
  rampN := w.getLsbD 2
  tcN := w.getLsbD 1
  stepN := w.getLsbD 0

/-- The stimulus word of a count and input levels (30_encoding.md R62). -/
def StimWord.make (count : BitVec 28) (lv : Inputs) : StimWord :=
  count ++ BitVec.ofBool lv.rst ++ BitVec.ofBool lv.rampN ++ BitVec.ofBool lv.tcN ++ BitVec.ofBool lv.stepN

/-! ## The host's opcode-table numbers -/

/-- The selector that a bare opcode-table number stands for (DESIGN CHOICE, log 7). A number of 1 bit is an `rsel`, of 3
bits an `lsel`. Written in whole bytes, the three tables share one number space: 1 is read as `rsel` 1; 4 to 7 as
`lsel` (no `ssel` the machine forms is 000xx1xx, since `lat` is 0 in `DISPATCH`, 30_encoding.md R55); any other
number below 256 as an `ssel`. -/
def selectorOfTableWord (nbits w : Nat) : Option Selector :=
  if nbits = 1 then (if w < 2 then some (.rsel (BitVec.ofNat 1 w)) else none)
  else if nbits = 3 then (if w < 8 then some (.lsel (BitVec.ofNat 3 w)) else none)
  else if nbits < 8 then none
  else if 256 ≤ w then none
  else if w = 1 then some (.rsel 1#1)
  else if 4 ≤ w ∧ w ≤ 7 then some (.lsel (BitVec.ofNat 3 w))
  else some (.ssel (BitVec.ofNat 8 w))

/-- The operation the decoder reads from an opcode-table number (log 7). -/
def decodeTableWord (nbits w : Nat) : Option Instr :=
  match selectorOfTableWord nbits w with
  | none => none
  | some sel =>
    match decode sel with
    | .ok i => some i
    | .error _ => none

end Sys2Proof
end

