-- ==== Sys2Proof/Machine/Operands.lean ====
section
/-!
DEFINITION. The computed operands of the block (30_encoding.md R54): the preset record selected by `pidx`, the
on-time and off-time of a PWM cycle, the threshold comparators, and the one subtraction they use. Everything is
on naturals (44_ramp_engine.md R140).
-/
namespace Sys2Proof

/-- Subtraction of naturals. The spec forms it only where it does not wrap (44_ramp_engine.md R140 b, f); elsewhere
its value is free (log 5). -/
def natSub (a b : Nat) : Nat :=
  if b ≤ a then a - b else Config.belowZero a b

/-- `PresetRead(p)`: the whole record of preset `p`; every two-bit index selects one (20_memory.md R31, R34). -/
def Cfg.presetRead (c : Cfg) (p : BitVec 2) : Preset :=
  if p = 0#2 then c.p0 else if p = 1#2 then c.p1 else if p = 2#2 then c.p2 else c.p3

/-- On-time of PWM cycle `i` in clock cycles: exact product, floor by the shift, then the offset
(44_ramp_engine.md R131). -/
def Preset.onTicks (r : Preset) (i : Nat) : Nat :=
  ((i * r.slope) >>> Config.frac) + r.offset

/-- Off-time of PWM cycle `i` for the period `period` (44_ramp_engine.md R132). -/
def Preset.offTicks (r : Preset) (period i : Nat) : Nat :=
  natSub period (r.onTicks i)

/-- `ceil(n * k / 5)` in integers (44_ramp_engine.md R140 g; 90_conflicts.md C1). -/
def ceilFifth (n k : Nat) : Nat :=
  (n * k + 4) / 5

/-- `TH[p][k]` for k = 1..4, the stored threshold of indicator LEDk (20_memory.md R31). -/
def Preset.threshold (r : Preset) : Fin 4 → Nat
  | 0 => r.th1
  | 1 => r.th2
  | 2 => r.th3
  | 3 => r.th4

/-- Threshold comparator of LED(k+1): 1 when `i` has reached the threshold (44_ramp_engine.md R133). The comparator
of LED1 is `hit r i 0`, that of LED4 is `hit r i 3`. -/
def Preset.hit (r : Preset) (i : Nat) (k : Fin 4) : Bool :=
  decide (r.threshold k ≤ i)

/-- The four comparator results as the bits of the indicator bank they drive, LED0's bit being 0
(44_ramp_engine.md R133, R134). -/
def Preset.hits (r : Preset) (i : Nat) : BitVec 5 :=
  BitVec.ofBool (r.hit i 3) ++ BitVec.ofBool (r.hit i 2) ++ BitVec.ofBool (r.hit i 1)
    ++ BitVec.ofBool (r.hit i 0) ++ 0#1

end Sys2Proof
end

