-- ==== Sys2Proof/Machine/State.lean ====
section
/-!
DEFINITION. The machine's state: the ten registers of 10_state.md R10, the configuration constant, the environment's
stimulus and the cycle number; the reasons a step stops; the state after reset; one setter per register.
-/
namespace Sys2Proof.Machine

/-- The block raises no exception and has no trap and no stuck case (60_exceptions.md R160), so there is no fault. -/
inductive Fault where
deriving DecidableEq, Repr

/-- Why the model gives no meaning. -/
inductive Refusal where
  /-- Raised by an arm of `exec` whose operation has no meaning yet. No arm raises it. Safe. -/
  | notModelled (mnemonic : String)
  /-- Raised by every operation, and by the loader, under a configuration that breaks one of WF1 to WF5: the spec's
  `refuse ConfigIllFormed` (00_scope.md R6, 60_exceptions.md R160). Safe: nothing is claimed there. -/
  | configIllFormed
  /-- Raised by the loader of a preset table for a word whose reserved field [127:120] is not zero
  (30_encoding.md R53). Safe: such a word is not a configuration. -/
  | presetReserved (p : BitVec 2)
  /-- Raised by `step` when the next stimulus word has the reserved count 0 (30_encoding.md R62). Safe: such a word is
  not a statement. -/
  | stimulusCountZero
deriving DecidableEq, Repr

/-- The state of the machine. The first ten fields are the ten registers of 10_state.md R10; the last three are the
model's own (logs 1, 3, 4). -/
structure State where
  /-- `ms`, the MotorState (10_state.md R11). -/
  ms : MotorState
  /-- `pidx`, the preset index (10_state.md R12). -/
  pidx : BitVec 2
  /-- `tc_latched` (10_state.md R13). -/
  tcLatched : Bool
  /-- `step_latched` (10_state.md R13). -/
  stepLatched : Bool
  /-- `led`, bit k is LEDk (10_state.md R16). -/
  led : BitVec 5
  /-- `motor` (10_state.md R15). -/
  motor : Bool
  /-- `ph`, the sequencer phase (10_state.md R14). -/
  ph : Phase
  /-- `timer` (10_state.md R19), a natural (log 2). -/
  timer : Nat
  /-- `i`, the ramp step index (10_state.md R17), a natural (log 2). -/
  i : Nat
  /-- `ramp_prev` (10_state.md R18). -/
  rampPrev : Bool
  /-- The configuration: a constant of the machine that no step writes (20_memory.md R32, log 1). -/
  cfg : Cfg
  /-- The stimulus words not yet used up (30_encoding.md R62, log 3). -/
  stim : List StimWord
  /-- The number of the current cycle (00_scope.md R7, log 4). -/
  tick : Nat
deriving DecidableEq, Repr

/-- What an operation or a step answers. -/
abbrev Result := Host.Outcome State Fault Refusal

/-- The state after reset under the configuration `c`: the ten registers as 10_state.md R21 gives them. -/
def State.resetWith (c : Cfg) : State where
  ms := .off
  pidx := 0#2
  tcLatched := false
  stepLatched := false
  led := 0#5
  motor := false
  ph := .dispatch
  timer := 0
  i := 0
  rampPrev := false
  cfg := c
  stim := []
  tick := 0

/-- The state after reset, under the spec's reference configuration REF (DESIGN CHOICE, log 1). -/
def State.reset : State := State.resetWith Config.ref

/-! One setter per register: the model's `r <- v` (00_scope.md R7). -/

def State.setMs (v : MotorState) (s : State) : State := { s with ms := v }
def State.setPidx (v : BitVec 2) (s : State) : State := { s with pidx := v }
def State.setTcLatched (v : Bool) (s : State) : State := { s with tcLatched := v }
def State.setStepLatched (v : Bool) (s : State) : State := { s with stepLatched := v }
def State.setLed (v : BitVec 5) (s : State) : State := { s with led := v }
def State.setMotor (v : Bool) (s : State) : State := { s with motor := v }
def State.setPh (v : Phase) (s : State) : State := { s with ph := v }
def State.setTimer (v : Nat) (s : State) : State := { s with timer := v }
def State.setI (v : Nat) (s : State) : State := { s with i := v }
def State.setRampPrev (v : Bool) (s : State) : State := { s with rampPrev := v }
def State.setStim (v : List StimWord) (s : State) : State := { s with stim := v }
def State.setTick (v : Nat) (s : State) : State := { s with tick := v }

end Sys2Proof.Machine
end

