-- ==== Sys2Proof/Machine/Flags.lean ====
section
/-!
DEFINITION. The flag computations of the block: the two debounce latches (10_state.md R13) and the indicator bank with
the motor line, the "flags written" of the operation rules (10_state.md R15, R16).
-/
namespace Sys2Proof.Machine

/-- The source's two-valued debounce state, a view of the latch and no register (10_state.md R13). -/
inductive DebounceState where
  | idle
  | settlingLow
deriving DecidableEq, Repr

/-- `Idle` exactly when the latch is 0 (10_state.md R13, 30_encoding.md R52). -/
def debounceView (latched : Bool) : DebounceState :=
  if latched then .settlingLow else .idle

/-- All five indicators asserted (43_motor_state.md R117). -/
def ledAll : BitVec 5 := 0b11111#5

/-- All five indicators cleared (43_motor_state.md R116, R118). -/
def ledNone : BitVec 5 := 0b00000#5

/-- LED0 asserted, the others kept (44_ramp_engine.md R135). -/
def ledBegin (led : BitVec 5) : BitVec 5 := led ||| 0b00001#5

/-- The bank before PWM cycle `j`: each indicator whose comparator gives 1 is asserted, none is cleared
(44_ramp_engine.md R134). -/
def ledStagger (r : Preset) (j : Nat) (led : BitVec 5) : BitVec 5 := led ||| r.hits j

/-- Motor line and all indicators to the level `v`: the outputs of the transitions T4, T5 and T6
(43_motor_state.md R110). -/
def State.drive (v : Bool) (s : State) : State :=
  (s.setMotor v).setLed (if v then ledAll else ledNone)

end Sys2Proof.Machine
end

