-- ==== Sys2Proof/WellFormed.lean ====
section
/-!
DEFINITION. What is well-formed: a configuration (00_scope.md R6, WF1 to WF5), an operation, a stimulus word and a
preset word. The rules of the spec give meaning only to a well-formed configuration.
-/
namespace Sys2Proof

/-- WF1 for one preset: `N[p]` >= 1. -/
abbrev Preset.HasStep (r : Preset) : Prop := 1 ≤ r.n

/-- WF2 for one preset: every on-time of the ramp is between 1 and `PERIOD`. -/
abbrev Preset.OnTimesFit (period : Nat) (r : Preset) : Prop :=
  ∀ i, i < r.n → 1 ≤ i → 1 ≤ r.onTicks i ∧ r.onTicks i ≤ period

/-- WF3 for one preset: the on-times strictly increase over 1 <= i < `N[p]` - 1. -/
abbrev Preset.OnTimesRise (r : Preset) : Prop :=
  ∀ i, i < r.n - 1 → 1 ≤ i → r.onTicks i < r.onTicks (i + 1)

/-- WF4 for one preset: each threshold is `N[p]` * k / 5 rounded up. -/
abbrev Preset.ThresholdsExact (r : Preset) : Prop :=
  r.th1 = ceilFifth r.n 1 ∧ r.th2 = ceilFifth r.n 2 ∧ r.th3 = ceilFifth r.n 3 ∧ r.th4 = ceilFifth r.n 4

/-- WF1 to WF4 for one preset under the period `period`. -/
structure Preset.WellFormed (period : Nat) (r : Preset) : Prop where
  hasStep : r.HasStep
  onTimesFit : r.OnTimesFit period
  onTimesRise : r.OnTimesRise
  thresholdsExact : r.ThresholdsExact

/-- The part of WF5 on the widths of `timer` and `i` (00_scope.md R5, R6). -/
abbrev Cfg.WidthsFit (c : Cfg) : Prop :=
  max c.settle c.period - 1 < 2 ^ c.wT ∧ max (max c.p0.n c.p1.n) (max c.p2.n c.p3.n) < 2 ^ c.wI

/-- A well-formed configuration: WF1 to WF5 (00_scope.md R6). -/
structure Cfg.WellFormed (c : Cfg) : Prop where
  clkPos : 1 ≤ c.clkPerMs
  periodPos : 1 ≤ c.period
  preset0 : c.p0.WellFormed c.period
  preset1 : c.p1.WellFormed c.period
  preset2 : c.p2.WellFormed c.period
  preset3 : c.p3.WellFormed c.period
  settleTenMs : c.settle = 10 * c.clkPerMs
  widthsFit : c.WidthsFit

/-- The check of WF1 to WF4 for one preset. -/
def Preset.check (period : Nat) (r : Preset) : Bool :=
  decide r.HasStep && decide (r.OnTimesFit period) && decide r.OnTimesRise && decide r.ThresholdsExact

/-- The check of WF1 to WF5 that the machine makes (00_scope.md R6). -/
def Cfg.check (c : Cfg) : Bool :=
  decide (1 ≤ c.clkPerMs) && decide (1 ≤ c.period) && c.p0.check c.period && c.p1.check c.period
    && c.p2.check c.period && c.p3.check c.period && decide (c.settle = 10 * c.clkPerMs) && decide c.WidthsFit

/-- Every operation is well-formed: none has an operand that could be out of range (10_state.md R22), and there is
no reserved or illegal encoding among the selectors (30_encoding.md R59). -/
abbrev Instr.WellFormed (_ : Instr) : Prop := True

/-- A stimulus word is well-formed when its count field [31:4] is not the reserved value 0 (30_encoding.md R62). -/
abbrev StimWord.WellFormed (w : StimWord) : Prop := w.count ≠ 0#28

/-- A preset word is well-formed when its reserved field [127:120] is zero (30_encoding.md R53). -/
abbrev PresetWord.WellFormed (w : PresetWord) : Prop := w.reserved = 0#8

end Sys2Proof
end

