-- ==== Sys2Proof/Machine/Ops.lean ====
section
/-!
DEFINITION. The operations every meaning is made of: the configuration check, the delay pair, the loop head of the
ramp, the service of the interrupt, line reads, edge detection and the outputs.
-/
namespace Sys2Proof.Machine

/-- An operation of the state `s` answers `s'`, but has no meaning under an ill-formed configuration, which is refused
(00_scope.md R6, log 6). -/
def underConfig (s s' : State) : Result :=
  if s.cfg.check then .next s' else .refused .configIllFormed

/-- `LineRead(id)`: the level of the line sampled at the clock edge that ends the cycle (20_memory.md R37). -/
def lineRead (lv : Inputs) : LineId → Level
  | .rampN => lv.rampN
  | .tcN => lv.tcN
  | .stepN => lv.stepN

/-- `EdgeDetect(prev, now)`: a change from inactive (1) to active (0) (40_cycle_step.md R71). -/
def edgeDetect (prev now : Level) : Bool := prev && !now

/-- The edge memory takes the sampled level of `ramp_n` (40_cycle_step.md R71, 10_state.md R18). -/
def State.sampleRamp (lv : Inputs) (s : State) : State :=
  s.setRampPrev (lineRead lv .rampN)

/-- Taking the one interrupt: its whole effect is the single assignment to `ms`. Nothing is saved, nothing is
redirected, and there is no return (60_exceptions.md R163, R164). -/
def State.serveEdge (v : MotorState) (s : State) : State := s.setMs v

/-- `StartDelay(D, P)`: `timer <- D - 1; ph <- P` (40_cycle_step.md R75). -/
def State.startDelay (d : Nat) (p : Phase) (s : State) : State :=
  (s.setTimer (natSub d 1)).setPh p

/-- One cycle of a timed phase: `timer <- timer - 1` (10_state.md R19). -/
def State.countDown (s : State) : State :=
  s.setTimer (natSub s.timer 1)

/-- The preset record that `pidx` selects (20_memory.md R31). -/
def State.preset (s : State) : Preset := s.cfg.presetRead s.pidx

/-- The exit branch of `BeginCycle`: the ramp is complete (44_ramp_engine.md R134, transition T2). -/
def State.finishRamp (s : State) : State :=
  ((s.setMotor true).setMs .on).setPh .tc

/-- The other branch of `BeginCycle`: PWM cycle number `j` starts (44_ramp_engine.md R134). -/
def State.startPwm (j : Nat) (s : State) : State :=
  ((s.setLed (ledStagger s.preset j s.led)).setMotor true).startDelay (s.preset.onTicks j) .rampOn

/-- `BeginCycle(j)`, the loop head for step `j` with its exit (44_ramp_engine.md R134). -/
def State.beginCycle (j : Nat) (s : State) : State :=
  if s.preset.n ≤ j then (s.setI j).finishRamp else (s.setI j).startPwm j

/-- The levels of the output lines (40_cycle_step.md R73, 20_memory.md R36). -/
structure Outputs where
  motor : Level
  led : BitVec 5
  mstate : BitVec 2
  pidxO : BitVec 2
deriving DecidableEq, Repr

/-- `Out(S)`: the outputs are functions of the state alone (40_cycle_step.md R73, 10_state.md R20). -/
def State.out (s : State) : Outputs where
  motor := s.motor
  led := s.led
  mstate := s.ms.toBits
  pidxO := s.pidx

end Sys2Proof.Machine
end

