-- ==== Sys2Proof/Machine/Debounce.lean ====
section
/-!
DEFINITION. The two debounce channels (42_debounce.md R90, R102): the poll, wait and fire operations of the
Timing-Change channel and the poll and wait operations of the Step channel.
-/
namespace Sys2Proof.Machine

/-- `TC_PRESS` (42_debounce.md R91). -/
def execTcPress (s : State) : Result :=
  underConfig s ((s.setTcLatched true).startDelay s.cfg.settle .tcSettle)

/-- `TC_HELD` (42_debounce.md R92). -/
def execTcHeld (s : State) : Result := underConfig s (s.setPh .step)

/-- `TC_RELEASE` (42_debounce.md R93). -/
def execTcRelease (s : State) : Result := underConfig s ((s.setTcLatched false).setPh .step)

/-- `TC_WAIT` (42_debounce.md R94). -/
def execTcWait (s : State) : Result := underConfig s s.countDown

/-- `TC_FIRE`: the two-bit addition wraps from 3 to 0 (42_debounce.md R95). -/
def execTcFire (s : State) : Result := underConfig s ((s.setPidx (s.pidx + 1#2)).setPh .step)

/-- `STEP_PRESS` (42_debounce.md R96). -/
def execStepPress (s : State) : Result :=
  underConfig s ((s.setStepLatched true).startDelay s.cfg.settle .stepSettle)

/-- `STEP_HELD` (42_debounce.md R97). -/
def execStepHeld (s : State) : Result := underConfig s (s.setPh .dispatch)

/-- `STEP_RELEASE` (42_debounce.md R98). -/
def execStepRelease (s : State) : Result := underConfig s ((s.setStepLatched false).setPh .dispatch)

/-- `STEP_WAIT` (42_debounce.md R99). -/
def execStepWait (s : State) : Result := underConfig s s.countDown

end Sys2Proof.Machine
end

