-- ==== Sys2Proof/Machine/EdgeLatch.lean ====
section
/-!
DEFINITION. The four operations of the edge latch (41_edge_latch.md). The state each answers holds `ms1` in `ms`; it
writes nothing else (R80).
-/
namespace Sys2Proof.Machine

/-- `LATCH_IDLE`: `ms1 = ms` (41_edge_latch.md R84). -/
def execLatchIdle (s : State) : Result := underConfig s s

/-- `IRQ_START`: `ms1 = RampingUp` (41_edge_latch.md R81). -/
def execIrqStart (s : State) : Result := underConfig s (s.serveEdge .rampingUp)

/-- `IRQ_STOP`: `ms1 = PendingOff` (41_edge_latch.md R82). -/
def execIrqStop (s : State) : Result := underConfig s (s.serveEdge .pendingOff)

/-- `IRQ_NOP`: `ms1 = ms`; the edge is lost (41_edge_latch.md R83). -/
def execIrqNop (s : State) : Result := underConfig s s

end Sys2Proof.Machine
end

