-- ==== Sys2Proof/Machine/Motor.lean ====
section
/-!
DEFINITION. The motor state machine (43_motor_state.md): the dispatch operations, the PendingOff operations and the
fire operations of the Step channel.
-/
namespace Sys2Proof.Machine

/-- `DISP_IDLE` (43_motor_state.md R112). -/
def execDispIdle (s : State) : Result := underConfig s (s.setPh .tc)

/-- `POFF_HELD` (43_motor_state.md R113). -/
def execPoffHeld (s : State) : Result := underConfig s (s.setPh .tc)

/-- `POFF_REL` (43_motor_state.md R114). -/
def execPoffRel (s : State) : Result := underConfig s (s.startDelay s.cfg.settle .poffSettle)

/-- `POFF_WAIT` (43_motor_state.md R115). -/
def execPoffWait (s : State) : Result := underConfig s s.countDown

/-- `POFF_FIRE`: transition T4 (43_motor_state.md R116). -/
def execPoffFire (s : State) : Result := underConfig s (((s.setMs .off).drive false).setPh .tc)

/-- `STEP_FIRE_ON`: transition T5 (43_motor_state.md R117). -/
def execStepFireOn (s : State) : Result := underConfig s (((s.setMs .on).drive true).setPh .dispatch)

/-- `STEP_FIRE_OFF`: transition T6 (43_motor_state.md R118). -/
def execStepFireOff (s : State) : Result := underConfig s (((s.setMs .off).drive false).setPh .dispatch)

/-- `STEP_FIRE_NOP`: the event is discarded (43_motor_state.md R119). -/
def execStepFireNop (s : State) : Result := underConfig s (s.setPh .dispatch)

end Sys2Proof.Machine
end

