-- ==== Sys2Proof/Machine/Ramp.lean ====
section
/-!
DEFINITION. The five operations of the ramp engine over the shared procedure `BeginCycle` (44_ramp_engine.md R134).
-/
namespace Sys2Proof.Machine

/-- `RAMP_BEGIN`: LED0, then `BeginCycle(1)` (44_ramp_engine.md R135). -/
def execRampBegin (s : State) : Result :=
  underConfig s ((s.setLed (ledBegin s.led)).beginCycle 1)

/-- `RAMP_ON_WAIT` (44_ramp_engine.md R136). -/
def execRampOnWait (s : State) : Result := underConfig s s.countDown

/-- The end of an on-phase whose off-time is `off`: an empty off-phase is skipped (44_ramp_engine.md R137). -/
def State.endOnPhase (off : Nat) (s : State) : State :=
  if off = 0 then s.beginCycle (s.i + 1) else (s.setMotor false).startDelay off .rampOff

/-- `RAMP_ON_END` (44_ramp_engine.md R137). -/
def execRampOnEnd (s : State) : Result :=
  underConfig s (s.endOnPhase (s.preset.offTicks s.cfg.period s.i))

/-- `RAMP_OFF_WAIT` (44_ramp_engine.md R138). -/
def execRampOffWait (s : State) : Result := underConfig s s.countDown

/-- `RAMP_OFF_END`: `BeginCycle(i + 1)` (44_ramp_engine.md R139). -/
def execRampOffEnd (s : State) : Result := underConfig s (s.beginCycle (s.i + 1))

end Sys2Proof.Machine
end

