-- ==== Sys2Proof/Machine/Reset.lean ====
section
/-!
DEFINITION. `RESET` (40_cycle_step.md R76).
-/
namespace Sys2Proof.Machine

/-- Every register at its reset value; the configuration, the stimulus and the cycle number are no registers
(40_cycle_step.md R76, 10_state.md R21). -/
def State.clear (s : State) : State :=
  { s with
    ms := .off, pidx := 0#2, tcLatched := false, stepLatched := false, led := ledNone, motor := false
    ph := .dispatch, timer := 0, i := 0, rampPrev := false }

/-- `RESET`: writes every register, reads none (40_cycle_step.md R76). -/
def execReset (s : State) : Result := underConfig s s.clear

end Sys2Proof.Machine
end

