-- ==== Sys2Proof/Machine/Dispatch.lean ====
section
/-!
DEFINITION. One arm per operation: its meaning.
-/
namespace Sys2Proof.Machine

/-- The meaning of each operation on the registers (opcode_table.json; 30_encoding.md R56 to R58). -/
def exec (i : Instr) (s : State) : Host.Outcome State Fault Refusal :=
  match i with
  | .reset => Sys2Proof.Machine.execReset s
  | .latchIdle => Sys2Proof.Machine.execLatchIdle s
  | .irqStart => Sys2Proof.Machine.execIrqStart s
  | .irqStop => Sys2Proof.Machine.execIrqStop s
  | .irqNop => Sys2Proof.Machine.execIrqNop s
  | .dispIdle => Sys2Proof.Machine.execDispIdle s
  | .rampBegin => Sys2Proof.Machine.execRampBegin s
  | .poffHeld => Sys2Proof.Machine.execPoffHeld s
  | .poffRel => Sys2Proof.Machine.execPoffRel s
  | .tcPress => Sys2Proof.Machine.execTcPress s
  | .tcHeld => Sys2Proof.Machine.execTcHeld s
  | .tcRelease => Sys2Proof.Machine.execTcRelease s
  | .tcWait => Sys2Proof.Machine.execTcWait s
  | .tcFire => Sys2Proof.Machine.execTcFire s
  | .stepPress => Sys2Proof.Machine.execStepPress s
  | .stepHeld => Sys2Proof.Machine.execStepHeld s
  | .stepRelease => Sys2Proof.Machine.execStepRelease s
  | .stepWait => Sys2Proof.Machine.execStepWait s
  | .stepFireOn => Sys2Proof.Machine.execStepFireOn s
  | .stepFireOff => Sys2Proof.Machine.execStepFireOff s
  | .stepFireNop => Sys2Proof.Machine.execStepFireNop s
  | .poffWait => Sys2Proof.Machine.execPoffWait s
  | .poffFire => Sys2Proof.Machine.execPoffFire s
  | .rampOnWait => Sys2Proof.Machine.execRampOnWait s
  | .rampOnEnd => Sys2Proof.Machine.execRampOnEnd s
  | .rampOffWait => Sys2Proof.Machine.execRampOffWait s
  | .rampOffEnd => Sys2Proof.Machine.execRampOffEnd s

end Sys2Proof.Machine
end

