-- ==== Sys2Proof/Machine/Cycle.lean ====
section
/-!
DEFINITION. One clock cycle: the selectors formed from state and inputs (30_encoding.md R55), the composition of the two
agents (40_cycle_step.md R70, R72), and a run of cycles.
-/
namespace Sys2Proof.Machine

/-- `lsel` = (`edge`, `ms`), on the registers of the current cycle (30_encoding.md R55). -/
def lselOf (lv : Inputs) (s : State) : Lsel :=
  BitVec.ofBool (edgeDetect s.rampPrev (lineRead lv .rampN)) ++ s.ms.toBits

/-- The line a phase looks at (30_encoding.md R55, `lvl`). -/
def phaseLine : Phase → LineId
  | .tc | .tcSettle => .tcN
  | .step | .stepSettle => .stepN
  | .dispatch | .poffSettle | .rampOn | .rampOff => .rampN

/-- The latch a phase looks at, 0 where it looks at none (30_encoding.md R55, `lat`). -/
def State.phaseLatch (s : State) : Bool :=
  match s.ph with
  | .tc | .tcSettle => s.tcLatched
  | .step | .stepSettle => s.stepLatched
  | .dispatch | .poffSettle | .rampOn | .rampOff => false

/-- `ssel` = (`ph`, `tz`, `lvl`, `lat`, `ms1`), on a state whose `ms` is already `ms1` (30_encoding.md R55). -/
def sselOf (lv : Inputs) (s : State) : Ssel :=
  s.ph.toBits ++ BitVec.ofBool (decide (s.timer = 0)) ++ BitVec.ofBool (lineRead lv (phaseLine s.ph))
    ++ BitVec.ofBool s.phaseLatch ++ s.ms.toBits

/-- The latch operation of a cycle (30_encoding.md R56). -/
def latchOp (lv : Inputs) (s : State) : Instr := decodeLsel (lselOf lv s)

/-- The sequencer operation of a cycle, on a state whose `ms` is already `ms1` (30_encoding.md R57). -/
def seqOp (lv : Inputs) (s : State) : Instr := decodeSsel (sselOf lv s)

/-- The second agent's turn: nothing more happens after an outcome that is not a next state. -/
def andThen (r : Result) (f : State → Result) : Result :=
  match r with
  | .next s => f s
  | .fault e => .fault e
  | .refused e => .refused e

/-- `Step(S, I)`: reset, or the edge memory and the latch operation, then the sequencer operation on the registers with
`ms1` in the place of `ms` (40_cycle_step.md R70, R72). -/
def cycle (lv : Inputs) (s : State) : Result :=
  if lv.rst then exec .reset s
  else andThen (exec (latchOp lv s) (s.sampleRamp lv)) fun s1 => exec (seqOp lv s1) s1

/-- The cycles of a list of input levels, one after the other (40_cycle_step.md R70). -/
def runCycles : List Inputs → State → Result
  | [], s => .next s
  | lv :: rest, s => andThen (cycle lv s) (runCycles rest)

end Sys2Proof.Machine
end

