-- ==== Sys2Proof/Machine/Stimulus.lean ====
section
/-!
DEFINITION. Where the input levels of a cycle come from: the stimulus words of 30_encoding.md R62, or the environment's
free levels; and the stimulus notation of R61 with its text form, its pseudo-statements and its assembly into words.
-/
namespace Sys2Proof.Machine

/-! ## The input levels of a cycle -/

/-- A stimulus word with one cycle less to go; its levels are kept (30_encoding.md R62). -/
def oneLess (w : StimWord) : StimWord :=
  StimWord.make (w.count - 1#28) w.levels

/-- The queue after one cycle of its first word. -/
def popCycle (w : StimWord) (rest : List StimWord) : List StimWord :=
  if w.count = 1#28 then rest else oneLess w :: rest

/-- The input levels of the current cycle and the state with that cycle taken from the queue: from the first stimulus
word, whose reserved count 0 is refused (30_encoding.md R62), or, when there is none, the environment's free levels
(log 3). -/
def takeInputs (s : State) : Except Refusal (Inputs × State) :=
  match s.stim with
  | [] => .ok (Config.lineLevels s.tick, s.setTick (s.tick + 1))
  | w :: rest =>
    if w.WellFormed then .ok (w.levels, (s.setStim (popCycle w rest)).setTick (s.tick + 1))
    else .error .stimulusCountZero

/-! ## Stimulus notation (R61) -/

/-- A statement of a stimulus program (30_encoding.md R61). -/
inductive Stmt where
  | set (changes : List (LineId × Level))
  | run (n : Nat)
  | reset (n : Nat)
  | press (line : LineId) (n : Nat)
  | idle (n : Nat)
deriving DecidableEq, Repr

/-- The levels at the start of a program: `rst` = 0, all lines inactive (30_encoding.md R61). -/
def startLevels : Inputs := ⟨false, true, true, true⟩

/-- One line set to a level. -/
def setLine (lv : Inputs) : LineId × Level → Inputs
  | (.rampN, v) => { lv with rampN := v }
  | (.tcN, v) => { lv with tcN := v }
  | (.stepN, v) => { lv with stepN := v }

/-- The expansion of a pseudo-statement; the other statements stand for themselves (30_encoding.md R61). -/
def Stmt.expand : Stmt → List Stmt
  | .press line n => [.set [(line, false)], .run n, .set [(line, true)]]
  | .idle n => [.set [(.rampN, true), (.tcN, true), (.stepN, true)], .run n]
  | .set changes => [.set changes]
  | .run n => [.run n]
  | .reset n => [.reset n]

/-- The greatest count of one stimulus word (30_encoding.md R62). -/
def maxCount : Nat := 2 ^ 28 - 1

/-- The words of `n` cycles with the given levels: a statement longer than the greatest count is split into several
words, full ones first (30_encoding.md R62, log 14). -/
def wordsOf (n : Nat) (lv : Inputs) : List StimWord :=
  List.replicate (n / maxCount) (StimWord.make (BitVec.ofNat 28 maxCount) lv)
    ++ (if n % maxCount = 0 then [] else [StimWord.make (BitVec.ofNat 28 (n % maxCount)) lv])

/-- Assembly of basic statements from the current levels; `RUN 0` and `RESET 0` are not statements
(30_encoding.md R61, R62; 93_implementation_defined.md I9). A `SET` that names one line more than once is a statement, and
its last level for the line holds (DESIGN CHOICE, log 14: R61 is silent on it). -/
def assembleFrom (lv : Inputs) : List Stmt → Option (List StimWord)
  | [] => some []
  | .set changes :: rest => assembleFrom (changes.foldl setLine lv) rest
  | .run n :: rest =>
    if n = 0 then none else (assembleFrom lv rest).map (wordsOf n { lv with rst := false } ++ ·)
  | .reset n :: rest =>
    if n = 0 then none else (assembleFrom lv rest).map (wordsOf n { lv with rst := true } ++ ·)
  | .press _ _ :: _ => none
  | .idle _ :: _ => none

/-- The words of a stimulus program (30_encoding.md R61, R62). -/
def assemble (p : List Stmt) : Option (List StimWord) :=
  assembleFrom startLevels (p.flatMap Stmt.expand)

/-! ## The text of a stimulus program (R61) -/

/-- Characters between words: space, tab, and the comma of `PRESS <line>, <n>`. -/
def isGap (c : Char) : Bool := c = ' ' || c = '\t' || c = ','

/-- A line up to its comment: `;` starts one that runs to the end of the line. -/
def dropComment (l : List Char) : List Char := l.takeWhile (· ≠ ';')

/-- The words of a line, `cur` being the letters of the current one in reverse. -/
def wordsFrom (cur : List Char) : List Char → List (List Char)
  | [] => if cur = [] then [] else [cur.reverse]
  | c :: rest =>
    if isGap c then (if cur = [] then wordsFrom [] rest else cur.reverse :: wordsFrom [] rest)
    else wordsFrom (c :: cur) rest

/-- The lines of a text, `cur` being the current one in reverse. -/
def linesFrom (cur : List Char) : List Char → List (List Char)
  | [] => [cur.reverse]
  | c :: rest => if c = '\n' then cur.reverse :: linesFrom [] rest else linesFrom (c :: cur) rest

/-- A decimal digit. -/
def digit? (c : Char) : Option Nat :=
  if '0'.toNat ≤ c.toNat ∧ c.toNat ≤ '9'.toNat then some (c.toNat - '0'.toNat) else none

/-- A decimal number that continues `acc`. -/
def numberFrom (acc : Nat) : List Char → Option Nat
  | [] => some acc
  | c :: rest =>
    match digit? c with
    | some d => numberFrom (acc * 10 + d) rest
    | none => none

/-- A decimal number of at least one digit. -/
def number? (w : List Char) : Option Nat :=
  if w = [] then none else numberFrom 0 w

/-- The name of a line. -/
def line? (w : List Char) : Option LineId :=
  if w = ['r', 'a', 'm', 'p', '_', 'n'] then some .rampN
  else if w = ['t', 'c', '_', 'n'] then some .tcN
  else if w = ['s', 't', 'e', 'p', '_', 'n'] then some .stepN
  else none

/-- `<line>=<0 or 1>`. -/
def change? (w : List Char) : Option (LineId × Level) :=
  match line? (w.takeWhile (· ≠ '=')), w.dropWhile (· ≠ '=') with
  | some l, ['=', '0'] => some (l, false)
  | some l, ['=', '1'] => some (l, true)
  | _, _ => none

/-- The statement of the words of one line (30_encoding.md R61). -/
def stmt? : List (List Char) → Option Stmt
  | ['S', 'E', 'T'] :: c :: cs => ((c :: cs).mapM change?).map .set
  | [['R', 'U', 'N'], n] => (number? n).map .run
  | [['R', 'E', 'S', 'E', 'T'], n] => (number? n).map .reset
  | [['P', 'R', 'E', 'S', 'S'], l, n] =>
    match line? l, number? n with
    | some l, some n => some (.press l n)
    | _, _ => none
  | [['I', 'D', 'L', 'E'], n] => (number? n).map .idle
  | _ => none

/-- The statements of a text, one a line; lines with no words are skipped (30_encoding.md R61, log 14). -/
def parse (text : List Char) : Option (List Stmt) :=
  (((linesFrom [] text).map fun l => wordsFrom [] (dropComment l)).filter (· ≠ [])).mapM stmt?

end Sys2Proof.Machine
end

