-- ==== Sys2Proof/Machine/Fetch.lean ====
section
/-!
DEFINITION. Placing an operation where the next step selects it. The block fetches nothing (20_memory.md R43): an
operation is selected by state and inputs (30_encoding.md R55), so placing one sets the registers its selector
examines and one cycle of stimulus (log 8).
-/
namespace Sys2Proof.Machine

/-- One cycle of stimulus in front of what is queued. -/
def State.placeLevels (lv : Inputs) (s : State) : State :=
  s.setStim (StimWord.make 1#28 lv :: s.stim)

/-- The registers and the cycle of stimulus under which a reset selector is formed. -/
def placeRsel (b : Rsel) (s : State) : State :=
  s.placeLevels ⟨b.getLsbD 0, true, true, true⟩

/-- The registers and the cycle of stimulus under which a latch selector is formed: `edge` = 1 is `ramp_prev` = 1 and
`ramp_n` = 0, `edge` = 0 an inactive line. -/
def placeLsel (b : Lsel) (s : State) : State :=
  let edge := b.getLsbD 2
  let s1 := s.setMs (MotorState.ofBits (b.extractLsb' 0 2))
  (if edge then s1.setRampPrev true else s1).placeLevels ⟨false, !edge, true, true⟩

/-- The latch of the phase set to `lat`; the four phases that look at none have nothing to set. -/
def State.setPhaseLatch (lat : Bool) (s : State) : State :=
  match s.ph with
  | .tc | .tcSettle => s.setTcLatched lat
  | .step | .stepSettle => s.setStepLatched lat
  | .dispatch | .poffSettle | .rampOn | .rampOff => s

/-- `timer` made zero for `tz` = 1, and kept or made 1 for `tz` = 0. -/
def State.setTimerZero (tz : Bool) (s : State) : State :=
  if tz then s.setTimer 0 else if s.timer = 0 then s.setTimer 1 else s

/-- The registers and the cycle of stimulus under which a sequencer selector is formed, with no qualifying edge, so that
`ms1` is `ms`. -/
def placeSsel (b : Ssel) (s : State) : State :=
  let lvl := b.getLsbD 3
  let ph := Phase.ofBits (b.extractLsb' 5 3)
  let s1 := ((s.setPh ph).setTimerZero (b.getLsbD 4)).setMs (MotorState.ofBits (b.extractLsb' 0 2))
  let s2 := s1.setPhaseLatch (b.getLsbD 2)
  match phaseLine ph with
  | .rampN => (s2.setRampPrev (s2.rampPrev && lvl)).placeLevels ⟨false, lvl, true, true⟩
  | .tcN => s2.placeLevels ⟨false, true, lvl, true⟩
  | .stepN => s2.placeLevels ⟨false, true, true, lvl⟩

/-- The state in which the next step forms the selector `sel`. -/
def placeSelector (sel : Selector) (s : State) : State :=
  match sel with
  | .rsel b => placeRsel b s
  | .lsel b => placeLsel b s
  | .ssel b => placeSsel b s

/-- The state in which the next step forms the selector that an opcode-table number stands for (log 7). -/
def placeTableWord (s : State) (nbits w : Nat) : State :=
  match selectorOfTableWord nbits w with
  | some sel => placeSelector sel s
  | none => s

end Sys2Proof.Machine
end

