-- ==== Sys2Proof/Machine/Step.lean ====
section
/-!
DEFINITION. The machine's step: one clock cycle under the next input levels (40_cycle_step.md R70).
-/
namespace Sys2Proof.Machine

/-- One clock cycle: the input levels of the cycle are taken, then `Step(S, I)` is applied (40_cycle_step.md R70). -/
def step (s : State) : Host.Outcome State Fault Refusal :=
  match takeInputs s with
  | .ok (lv, s') => cycle lv s'
  | .error e => .refused e

/-- `s` with the registers and one cycle of stimulus under which the next step selects the operation of the
opcode-table number `w` (log 8). -/
def State.withFetchWord (s : State) (nbits w : Nat) : State :=
  placeTableWord s nbits w

end Sys2Proof.Machine
end

