-- ==== Sys2Proof/Machine/Boot.lean ====
section
/-!
DEFINITION. Start-up (70_reset_and_hazards.md R184): a configuration exchanged as four preset words is loaded and checked
before the first cycle, and the machine is then in its reset state.
-/
namespace Sys2Proof.Machine

/-- The configuration of four packed preset words and the open parameters (30_encoding.md R53, 00_scope.md R5). A table
with a non-zero reserved field and an ill-formed configuration are refused (R53, R6), the reserved fields first
(DESIGN CHOICE, log 17). `SETTLE` is not free: it is ten milliseconds. -/
def loadConfig (clkPerMs period wT wI : Nat) (w0 w1 w2 w3 : PresetWord) (d0 d1 d2 d3 : Nat) : Except Refusal Cfg :=
  let c : Cfg :=
    { clkPerMs, settle := 10 * clkPerMs, period, wT, wI, p0 := w0.toPreset, p1 := w1.toPreset, p2 := w2.toPreset
      p3 := w3.toPreset, durMs0 := d0, durMs1 := d1, durMs2 := d2, durMs3 := d3 }
  if ¬ w0.WellFormed then .error (.presetReserved 0#2)
  else if ¬ w1.WellFormed then .error (.presetReserved 1#2)
  else if ¬ w2.WellFormed then .error (.presetReserved 2#2)
  else if ¬ w3.WellFormed then .error (.presetReserved 3#2)
  else if c.check then .ok c
  else .error .configIllFormed

/-- The machine after its first `RESET` under the configuration `c`: an ill-formed one is refused before the first
cycle (00_scope.md R6; 70_reset_and_hazards.md R182, R184). -/
def boot (c : Cfg) : Result :=
  if c.check then .next (State.resetWith c) else .refused .configIllFormed

end Sys2Proof.Machine
end

