-- ==== Sys2Proof/Safety.lean ====
section
/-!
DEFINITION. What counts as a safe state, in the terms the statements use: the invariants INV1 to INV7 of 10_state.md R24,
the tie between the indicators and the ramp step (44_ramp_engine.md R133), the register widths (00_scope.md R5), and
the assumptions on input sequences.
-/
namespace Sys2Proof

/-- The five timed phases (10_state.md R14, R19). -/
abbrev Phase.Timed (p : Phase) : Prop :=
  p = .tcSettle ∨ p = .stepSettle ∨ p = .poffSettle ∨ p = .rampOn ∨ p = .rampOff

end Sys2Proof

namespace Sys2Proof.Machine

/-- The two phases of a ramp in progress (44_ramp_engine.md R130). -/
abbrev State.InRamp (s : State) : Prop := s.ph = .rampOn ∨ s.ph = .rampOff

/-- INV1: in Off the motor and all indicators are off (10_state.md R24). -/
abbrev State.Inv1 (s : State) : Prop := s.ms = .off → s.motor = false ∧ s.led = ledNone

/-- INV2: in On and PendingOff the motor is driven and LED0 asserted (10_state.md R24). -/
abbrev State.Inv2 (s : State) : Prop :=
  s.ms = .on ∨ s.ms = .pendingOff → s.motor = true ∧ s.led.getLsbD 0 = true

/-- INV3: a ramp in progress (10_state.md R24). -/
abbrev State.Inv3 (s : State) : Prop :=
  s.InRamp → s.ms = .rampingUp ∧ s.led.getLsbD 0 = true ∧ 1 ≤ s.i ∧ s.i ≤ s.preset.n - 1 ∧
    (s.motor = true ↔ s.ph = .rampOn)

/-- INV4: the PendingOff settle runs only in PendingOff (10_state.md R24). -/
abbrev State.Inv4 (s : State) : Prop := s.ph = .poffSettle → s.ms = .pendingOff

/-- INV5: a channel in its settle delay is latched (10_state.md R24). -/
abbrev State.Inv5 (s : State) : Prop :=
  (s.ph = .tcSettle → s.tcLatched = true) ∧ (s.ph = .stepSettle → s.stepLatched = true)

/-- INV6: a ramp requested and not begun has all outputs off (10_state.md R24). -/
abbrev State.Inv6 (s : State) : Prop :=
  s.ms = .rampingUp ∧ ¬ s.InRamp → s.motor = false ∧ s.led = ledNone

/-- INV7: in a timed phase `timer` is below the phase's duration (10_state.md R24). -/
abbrev State.Inv7 (s : State) : Prop :=
  (s.ph = .tcSettle ∨ s.ph = .stepSettle ∨ s.ph = .poffSettle → s.timer < s.cfg.settle) ∧
    (s.ph = .rampOn → s.timer < s.preset.onTicks s.i) ∧
    (s.ph = .rampOff → s.timer < s.preset.offTicks s.cfg.period s.i)

/-- INV1 to INV7 together (10_state.md R24). -/
abbrev State.Inv (s : State) : Prop :=
  s.Inv1 ∧ s.Inv2 ∧ s.Inv3 ∧ s.Inv4 ∧ s.Inv5 ∧ s.Inv6 ∧ s.Inv7

/-- During a ramp the bank is LED0 and the indicators whose threshold the step index has reached
(44_ramp_engine.md R133, R142). -/
abbrev State.LedsTrackRamp (s : State) : Prop :=
  s.InRamp → s.led = ledBegin (s.preset.hits s.i)

/-- `timer` and `i` hold values of registers of `W_T` and `W_I` bits (00_scope.md R5, 10_state.md R10). -/
abbrev State.FitsWidths (s : State) : Prop := s.timer < 2 ^ s.cfg.wT ∧ s.i < 2 ^ s.cfg.wI

/-- Input levels without reset. -/
abbrev NoReset (lvs : List Inputs) : Prop := ∀ lv ∈ lvs, lv.rst = false

/-- Input levels with the ramp-start line inactive throughout, so that no qualifying edge can fall. -/
abbrev RampLineInactive (lvs : List Inputs) : Prop := ∀ lv ∈ lvs, lv.rampN = true

end Sys2Proof.Machine
end

