-- ==== Sys2Proof/Certificates/Slice0/Obligations.lean ====
section
/-!
DEFINITION. The statements for the provers. Every statement about an operation or a cycle holds for every well-formed
configuration (00_scope.md R6), since the configuration is a field of the state; the rule of the spec each one
formalises is named in its docstring. Free values (logs 3, 5) enter no conclusion.
-/

open Sys2Proof Sys2Proof.Machine

/-! ## Encodings and decode -/

/-- Five selector words written out from the tables of 30_encoding.md R56 to R58 decode to their operations; the `ssel`
and `lsel` words are the examples of 95_test_vectors.md section 2.6. The sixth word, `rsel` = 0, has no operation: that
the decoder answers it with the error `resetNotAsserted` is the model's choice (log 18, DESIGN CHOICE). -/
def Obligations.WrittenWordsDecode : Prop :=
  decode (.ssel 0b10010101#8) = .ok .stepFireOff ∧ decode (.ssel 0b00011011#8) = .ok .poffRel ∧
    decode (.ssel 0b00110001#8) = .ok .tcPress ∧ decode (.lsel 0b101#3) = .ok .irqStop ∧
    decode (.rsel 0b1#1) = .ok .reset ∧ decode (.rsel 0b0#1) = .error .resetNotAsserted

/-- 30_encoding.md R56, R57: every value of `lsel` and of `ssel` matches exactly one row, and the decoder answers the
operation of that row; of `rsel`, the value 1 alone matches a row. -/
def Obligations.SelectorTablesPartition : Prop :=
  (∀ (sel : Selector) (i : Instr), decode sel = .ok i ↔ i.row.Matches sel) ∧
    (∀ b : Ssel, ∃! i : Instr, i.row.Matches (.ssel b)) ∧
    (∀ b : Lsel, ∃! i : Instr, i.row.Matches (.lsel b)) ∧
    (∃! i : Instr, i.row.Matches (.rsel 1#1)) ∧ ∀ i : Instr, ¬ i.row.Matches (.rsel 0#1)

/-- 30_encoding.md R55: every word of an operation, whatever its unexamined bits hold, decodes to the operation. -/
def Obligations.DecodeOfEveryEncoding : Prop :=
  ∀ (i : Instr) (fill : BitVec 8), decode (encodeWith i fill) = .ok i

/-- 30_encoding.md R53: packing and unpacking a preset word are inverse on records whose fields fit and on words whose
reserved field is zero. -/
def Obligations.PresetWordRoundTrip : Prop :=
  (∀ r : Preset, r.Packable → r.toWord.WellFormed ∧ r.toWord.toPreset = r) ∧
    ∀ w : PresetWord, w.WellFormed → w.toPreset.Packable ∧ w.toPreset.toWord = w

/-- 30_encoding.md R62: the fields of a stimulus word are the count and the levels it was made from, at the bit places
of the rule, and every word is made from its fields. -/
def Obligations.StimulusWordRoundTrip : Prop :=
  (∀ (n : BitVec 28) (lv : Inputs), StimWord.count (StimWord.make n lv) = n ∧ StimWord.levels (StimWord.make n lv) = lv) ∧
    (∀ w : StimWord, StimWord.make w.count w.levels = w) ∧
    ∀ (n : BitVec 28) (r a t b : Bool), (StimWord.make n ⟨r, a, t, b⟩).toNat =
      n.toNat * 16 + r.toNat * 8 + a.toNat * 4 + t.toNat * 2 + b.toNat

/-- 30_encoding.md R55: the selectors are formed from the fields the rule names, in any state and under any inputs. -/
def Obligations.SelectionByFields : Prop :=
  ∀ (s : State) (lv : Inputs),
    latchOp lv s = selectLatch (s.rampPrev && !lv.rampN) s.ms ∧
      (s.ph = .tc ∨ s.ph = .tcSettle →
        seqOp lv s = selectSeq s.ph (decide (s.timer = 0)) lv.tcN s.tcLatched s.ms) ∧
      (s.ph = .step ∨ s.ph = .stepSettle →
        seqOp lv s = selectSeq s.ph (decide (s.timer = 0)) lv.stepN s.stepLatched s.ms) ∧
      (s.ph = .dispatch ∨ s.ph = .poffSettle ∨ s.ph = .rampOn ∨ s.ph = .rampOff →
        seqOp lv s = selectSeq s.ph (decide (s.timer = 0)) lv.rampN false s.ms)

/-! ## The step -/

/-- 40_cycle_step.md R70, R72: a step takes the cycle's input levels, which the model holds as a queue (log 3), and answers a
next state; with `rst` = 1 it is `RESET`; with `rst` = 0 it is
the latch operation decoded from `edge` and `ms`, the edge memory taking the level of `ramp_n`, and then the
sequencer operation decoded on the registers with `ms1` in the place of `ms`. -/
def Obligations.StepRunsSelectedOperations : Prop :=
  ∀ (s s' : State) (lv : Inputs), s.cfg.WellFormed → takeInputs s = .ok (lv, s') →
    (∃ t, step s = .next t) ∧ (lv.rst = true → step s = exec .reset s') ∧
      (lv.rst = false → ∃ s1,
        exec (decodeLsel (BitVec.ofBool (s.rampPrev && !lv.rampN) ++ s.ms.toBits)) { s' with rampPrev := lv.rampN }
            = .next s1 ∧
          step s = exec (decodeSsel (sselOf lv s1)) s1)

/-- 30_encoding.md R62, on the model's stimulus queue (log 3): a stimulus word of count n + 1 gives its levels to the current cycle and leaves the word of count
n, or nothing when n is 0; `Step` is applied once, and the cycle number advances. -/
def Obligations.StimulusWordGivesLevels : Prop :=
  ∀ (s : State) (n : Nat) (lv : Inputs) (rest : List StimWord), n + 1 < 2 ^ 28 →
    s.stim = StimWord.make (BitVec.ofNat 28 (n + 1)) lv :: rest →
    step s = cycle lv { s with
      stim := if n = 0 then rest else StimWord.make (BitVec.ofNat 28 n) lv :: rest
      tick := s.tick + 1 }

/-- 40_cycle_step.md R70, 60_exceptions.md R160: under a well-formed configuration every step of every state, reachable or
not, answers a next state, unless the next stimulus word has the reserved count. -/
def Obligations.StepIsTotal : Prop :=
  ∀ s : State, s.cfg.WellFormed → (∀ w rest, s.stim = w :: rest → w.count ≠ 0#28) → ∃ t, step s = .next t

/-- THE MODEL'S CHOICE of when a step is refused, and exactly when. The spec has an ill-formed configuration and a stimulus
count of 0 refused (00_scope.md R6, 30_encoding.md R62), the configuration once, before the first cycle; that every step
refuses an ill-formed configuration, and looks at the count first, is log 6 (DESIGN CHOICE), and that the count is refused
in the cycle that takes it is log 9 (DEDUCED). -/
def Obligations.StepRefusalsNamed : Prop :=
  ∀ s : State,
    (step s = .refused .stimulusCountZero ↔ ∃ w rest, s.stim = w :: rest ∧ w.count = 0#28) ∧
      (step s = .refused .configIllFormed ↔
        ¬ s.cfg.WellFormed ∧ ∀ w rest, s.stim = w :: rest → w.count ≠ 0#28)

/-- 20_memory.md R32: no step changes the configuration, and so none changes any record of the preset table. -/
def Obligations.PresetTableImmutable : Prop :=
  ∀ s t : State, step s = .next t → t.cfg = s.cfg ∧ ∀ p : BitVec 2, t.cfg.presetRead p = s.cfg.presetRead p

/-- 00_scope.md R6, 30_encoding.md R53: with four reserved fields of zero the loader answers the record of its arguments
when that record is well-formed, and the refusal of an ill-formed one otherwise; a non-zero reserved field is refused by
the name of a preset that has one. That this refusal comes also where the record is ill-formed is the model's choice
(log 17, DESIGN CHOICE: reserved fields are refused before WF1 to WF5 are checked). -/
def Obligations.LoaderChecksConfiguration : Prop :=
  ∀ (clk per wT wI d0 d1 d2 d3 : Nat) (w0 w1 w2 w3 : PresetWord),
    let c : Cfg :=
      { clkPerMs := clk, settle := 10 * clk, period := per, wT := wT, wI := wI
        p0 := w0.toPreset, p1 := w1.toPreset, p2 := w2.toPreset, p3 := w3.toPreset
        durMs0 := d0, durMs1 := d1, durMs2 := d2, durMs3 := d3 }
    let answer := loadConfig clk per wT wI w0 w1 w2 w3 d0 d1 d2 d3
    (w0.reserved = 0#8 → w1.reserved = 0#8 → w2.reserved = 0#8 → w3.reserved = 0#8 →
        (c.WellFormed → answer = .ok c) ∧ (¬ c.WellFormed → answer = .error .configIllFormed)) ∧
      (w0.reserved ≠ 0#8 ∨ w1.reserved ≠ 0#8 ∨ w2.reserved ≠ 0#8 ∨ w3.reserved ≠ 0#8 →
        ∃ p : BitVec 2, answer = .error (.presetReserved p) ∧
          (p = 0#2 ∧ w0.reserved ≠ 0#8 ∨ p = 1#2 ∧ w1.reserved ≠ 0#8 ∨ p = 2#2 ∧ w2.reserved ≠ 0#8 ∨
            p = 3#2 ∧ w3.reserved ≠ 0#8)) ∧
      ∀ a : Cfg, answer = .ok a →
        a.WellFormed ∧ a.settle = 10 * clk ∧ a.period = per ∧ a.presetRead 0#2 = w0.toPreset ∧
          a.presetRead 1#2 = w1.toPreset ∧ a.presetRead 2#2 = w2.toPreset ∧ a.presetRead 3#2 = w3.toPreset

/-! ## Operations -/

/-- 40_cycle_step.md R76: `RESET` writes every register, and a cycle with `rst` = 1 is `RESET` whatever the latch and the
sequencer would have done. -/
def Obligations.ResetWritesEveryRegister : Prop :=
  decode (.rsel 1#1) = .ok .reset ∧ ∀ s : State, s.cfg.WellFormed →
    exec .reset s = .next { s with
        ms := .off, pidx := 0#2, tcLatched := false, stepLatched := false, led := 0b00000#5, motor := false
        ph := .dispatch, timer := 0, i := 0, rampPrev := false } ∧
      ∀ lv : Inputs, lv.rst = true → cycle lv s = exec .reset s

/-- 41_edge_latch.md R81: `IRQ_START` writes RampingUp to `ms` and nothing else. In the cycle of a `STEP_FIRE_*` selection
the Step press has no effect; in a `DISPATCH` cycle the ramp begins in the same cycle; in a reachable state nothing else
assigns `ms` in that cycle but a ramp of one step. -/
def Obligations.IrqStartRequestsRamp : Prop :=
  decodeLsel 0b100#3 = .irqStart ∧
    (∀ s : State, s.cfg.WellFormed → exec .irqStart s = .next { s with ms := .rampingUp }) ∧
    ∀ (s : State) (lv : Inputs), s.cfg.WellFormed → lv.rst = false → s.rampPrev = true → lv.rampN = false →
      s.ms = .off →
      (s.ph = .stepSettle → s.timer = 0 →
        cycle lv s = .next { s with ms := .rampingUp, rampPrev := false, ph := .dispatch }) ∧
        (s.ph = .dispatch → ∃ t, cycle lv s = .next t ∧ t.led.getLsbD 0 = true ∧ t.motor = true ∧ t.i = 1 ∧
          t.ph = if s.preset.n = 1 then .tc else .rampOn) ∧
        (s.Inv → ∃ t, cycle lv s = .next t ∧
          (t.ms = .rampingUp ∨ (s.ph = .dispatch ∧ s.preset.n = 1 ∧ t.ms = .on)))

/-- 41_edge_latch.md R82: `IRQ_STOP` writes PendingOff to `ms` and nothing else. In the cycle of a `STEP_FIRE_*` selection
the Step press has no effect, in a `DISPATCH` cycle `POFF_HELD` runs, and motor and indicators stay. -/
def Obligations.IrqStopRequestsShutdown : Prop :=
  decodeLsel 0b101#3 = .irqStop ∧
    (∀ s : State, s.cfg.WellFormed → exec .irqStop s = .next { s with ms := .pendingOff }) ∧
    ∀ (s : State) (lv : Inputs), s.cfg.WellFormed → lv.rst = false → s.rampPrev = true → lv.rampN = false →
      s.ms = .on →
      (s.ph = .stepSettle → s.timer = 0 →
        cycle lv s = .next { s with ms := .pendingOff, rampPrev := false, ph := .dispatch }) ∧
        (s.ph = .dispatch → cycle lv s = .next { s with ms := .pendingOff, rampPrev := false, ph := .tc }) ∧
        (s.Inv → ∃ t, cycle lv s = .next t ∧ t.ms = .pendingOff ∧ t.motor = s.motor ∧ t.led = s.led)

/-- 41_edge_latch.md R83: `IRQ_NOP` writes nothing. In RampingUp and PendingOff an edge is lost: the cycle is the one it
would be with the other level in the edge memory. -/
def Obligations.IrqNopSwallowsEdge : Prop :=
  (∀ b : Lsel, b &&& 0b110#3 = 0b110#3 → decodeLsel b = .irqNop) ∧
    (∀ s : State, s.cfg.WellFormed → exec .irqNop s = .next s) ∧
    ∀ (s : State) (lv : Inputs) (prev : Bool), s.cfg.WellFormed → lv.rst = false →
      s.ms = .rampingUp ∨ s.ms = .pendingOff →
      ∃ t, cycle lv s = .next t ∧ cycle lv { s with rampPrev := prev } = .next t

/-- 41_edge_latch.md R84: `LATCH_IDLE` writes nothing. A line held active causes no second edge: after a cycle that samples
it at 0 the latch operation of the next cycle is `LATCH_IDLE`, unless the line is first sampled at 1. -/
def Obligations.LatchIdleWithoutEdge : Prop :=
  (∀ b : Lsel, b &&& 0b100#3 = 0b000#3 → decodeLsel b = .latchIdle) ∧
    (∀ s : State, s.cfg.WellFormed → exec .latchIdle s = .next s) ∧
    ∀ (s : State) (lv lv' : Inputs), s.cfg.WellFormed → lv.rampN = false →
      ∃ t, cycle lv s = .next t ∧ latchOp lv' t = .latchIdle

/-- 42_debounce.md R91, R96: an accepted press sets the channel's latch and starts the settle delay, in every motor
state. -/
def Obligations.PressStartsSettle : Prop :=
  (∀ b : Ssel, b &&& 0xEC#8 = 0x20#8 → decodeSsel b = .tcPress) ∧
    (∀ b : Ssel, b &&& 0xEC#8 = 0x60#8 → decodeSsel b = .stepPress) ∧
    ∀ s : State, s.cfg.WellFormed →
      exec .tcPress s = .next { s with tcLatched := true, timer := s.cfg.settle - 1, ph := .tcSettle } ∧
        exec .stepPress s = .next { s with stepLatched := true, timer := s.cfg.settle - 1, ph := .stepSettle }

/-- 42_debounce.md R93, R98: a sampled release clears the channel's latch, whatever it was, with no delay. -/
def Obligations.ReleaseClearsLatch : Prop :=
  (∀ b : Ssel, b &&& 0xE8#8 = 0x28#8 → decodeSsel b = .tcRelease) ∧
    (∀ b : Ssel, b &&& 0xE8#8 = 0x68#8 → decodeSsel b = .stepRelease) ∧
    ∀ s : State, s.cfg.WellFormed →
      exec .tcRelease s = .next { s with tcLatched := false, ph := .step } ∧
        exec .stepRelease s = .next { s with stepLatched := false, ph := .dispatch }

/-- 42_debounce.md R92, R97; 43_motor_state.md R112, R113, R119: the operations that only move on to the next phase. -/
def Obligations.PhaseOnlyOperations : Prop :=
  (∀ b : Ssel, b &&& 0xEC#8 = 0x24#8 → decodeSsel b = .tcHeld) ∧
    (∀ b : Ssel, b &&& 0xEC#8 = 0x64#8 → decodeSsel b = .stepHeld) ∧
    (∀ b : Ssel, b &&& 0xE2#8 = 0x00#8 → decodeSsel b = .dispIdle) ∧
    (∀ b : Ssel, b &&& 0xEB#8 = 0x03#8 → decodeSsel b = .poffHeld) ∧
    (∀ b : Ssel, b &&& 0xF2#8 = 0x92#8 → decodeSsel b = .stepFireNop) ∧
    ∀ s : State, s.cfg.WellFormed →
      exec .tcHeld s = .next { s with ph := .step } ∧ exec .stepHeld s = .next { s with ph := .dispatch } ∧
        exec .dispIdle s = .next { s with ph := .tc } ∧ exec .poffHeld s = .next { s with ph := .tc } ∧
        exec .stepFireNop s = .next { s with ph := .dispatch }

/-- 42_debounce.md R94, R99; 43_motor_state.md R115; 44_ramp_engine.md R136, R138: a waiting cycle counts `timer` down by
one and writes nothing else. Each word selects its operation exactly where `timer` is not 0; where it is 0 the
operation writes some value to `timer` (log 5). -/
def Obligations.WaitCountsDown : Prop :=
  (∀ b : Ssel, b &&& 0xF0#8 = 0x40#8 → decodeSsel b = .tcWait) ∧
    (∀ b : Ssel, b &&& 0xF0#8 = 0x80#8 → decodeSsel b = .stepWait) ∧
    (∀ b : Ssel, b &&& 0xF0#8 = 0xA0#8 → decodeSsel b = .poffWait) ∧
    (∀ b : Ssel, b &&& 0xF0#8 = 0xC0#8 → decodeSsel b = .rampOnWait) ∧
    (∀ b : Ssel, b &&& 0xF0#8 = 0xE0#8 → decodeSsel b = .rampOffWait) ∧
    ∀ s : State, s.cfg.WellFormed → ∃ v : Nat, (s.timer ≠ 0 → v = s.timer - 1) ∧
      exec .tcWait s = .next { s with timer := v } ∧ exec .stepWait s = .next { s with timer := v } ∧
        exec .poffWait s = .next { s with timer := v } ∧ exec .rampOnWait s = .next { s with timer := v } ∧
        exec .rampOffWait s = .next { s with timer := v }

/-- 42_debounce.md R95: `TC_FIRE` advances the preset index modulo 4 and writes nothing else but the phase. -/
def Obligations.TcFireAdvancesPreset : Prop :=
  (∀ b : Ssel, b &&& 0xF0#8 = 0x50#8 → decodeSsel b = .tcFire) ∧
    ∀ s : State, s.cfg.WellFormed → ∃ p : BitVec 2, p.toNat = (s.pidx.toNat + 1) % 4 ∧
      exec .tcFire s = .next { s with pidx := p, ph := .step }

/-- 43_motor_state.md R116, R117, R118: the three operations that switch the motor and all five indicators. -/
def Obligations.FiresDriveOutputs : Prop :=
  (∀ b : Ssel, b &&& 0xF0#8 = 0xB0#8 → decodeSsel b = .poffFire) ∧
    (∀ b : Ssel, b &&& 0xF3#8 = 0x90#8 → decodeSsel b = .stepFireOn) ∧
    (∀ b : Ssel, b &&& 0xF3#8 = 0x91#8 → decodeSsel b = .stepFireOff) ∧
    ∀ s : State, s.cfg.WellFormed →
      exec .poffFire s = .next { s with ms := .off, motor := false, led := 0b00000#5, ph := .tc } ∧
        exec .stepFireOn s = .next { s with ms := .on, motor := true, led := 0b11111#5, ph := .dispatch } ∧
        exec .stepFireOff s = .next { s with ms := .off, motor := false, led := 0b00000#5, ph := .dispatch }

/-- 43_motor_state.md R114: the line observed inactive in PendingOff starts the settle; `ms` stays PendingOff. -/
def Obligations.PoffRelStartsSettle : Prop :=
  (∀ b : Ssel, b &&& 0xEB#8 = 0x0B#8 → decodeSsel b = .poffRel) ∧
    ∀ s : State, s.cfg.WellFormed →
      exec .poffRel s = .next { s with timer := s.cfg.settle - 1, ph := .poffSettle }

/-- 44_ramp_engine.md R134, R135: `RAMP_BEGIN` asserts LED0 and starts PWM cycle 1, lighting the indicators whose threshold
is 1; with a step count of 1 the ramp completes in the same cycle. An `IRQ_START` in the same cycle is served first. -/
def Obligations.RampBeginStartsFirstCycle : Prop :=
  (∀ b : Ssel, b &&& 0xE3#8 = 0x02#8 → decodeSsel b = .rampBegin) ∧
    ∀ s : State, s.cfg.WellFormed →
      (s.preset.n = 1 →
        exec .rampBegin s = .next { s with
          led := s.led ||| 0b00001#5, i := 1, motor := true, ms := .on, ph := .tc }) ∧
        (2 ≤ s.preset.n → ∃ led' : BitVec 5, led'.getLsbD 0 = true ∧
          led'.getLsbD 1 = (s.led.getLsbD 1 || decide (s.preset.n ≤ 5)) ∧
          led'.getLsbD 2 = (s.led.getLsbD 2 || decide (s.preset.n = 2)) ∧
          led'.getLsbD 3 = s.led.getLsbD 3 ∧ led'.getLsbD 4 = s.led.getLsbD 4 ∧
          exec .rampBegin s = .next { s with
            led := led', i := 1, motor := true, timer := s.preset.onTicks 1 - 1, ph := .rampOn }) ∧
        ∀ lv : Inputs, lv.rst = false → s.rampPrev = true → lv.rampN = false → s.ms = .off → s.ph = .dispatch →
          cycle lv s = exec .rampBegin { s with ms := .rampingUp, rampPrev := false }

/-- 44_ramp_engine.md R134, R137: at the end of an on-phase the motor goes low for the off-time; an empty off-phase is
skipped and the loop head runs for step `i` + 1. The off-time is `PERIOD` - `on_ticks` wherever that is not below
zero; elsewhere, in states no run reaches, it is some number (log 5). -/
def Obligations.RampOnEndStartsOffPhase : Prop :=
  (∀ b : Ssel, b &&& 0xF0#8 = 0xD0#8 → decodeSsel b = .rampOnEnd) ∧
    ∀ s : State, s.cfg.WellFormed → ∃ off : Nat,
      (s.preset.onTicks s.i ≤ s.cfg.period → off = s.cfg.period - s.preset.onTicks s.i) ∧
        (off ≠ 0 → exec .rampOnEnd s = .next { s with motor := false, timer := off - 1, ph := .rampOff }) ∧
        (off = 0 → s.preset.n ≤ s.i + 1 →
          exec .rampOnEnd s = .next { s with i := s.i + 1, motor := true, ms := .on, ph := .tc }) ∧
        (off = 0 → s.i + 1 < s.preset.n → ∃ led' : BitVec 5, led'.getLsbD 0 = s.led.getLsbD 0 ∧
          (∀ k : Fin 4, led'.getLsbD (k.val + 1) =
            (s.led.getLsbD (k.val + 1) || decide (s.preset.threshold k ≤ s.i + 1))) ∧
          exec .rampOnEnd s = .next { s with
            led := led', i := s.i + 1, motor := true, timer := s.preset.onTicks (s.i + 1) - 1, ph := .rampOn })

/-- 44_ramp_engine.md R134, R139: at the end of an off-phase the loop head runs for step `i` + 1: the next PWM cycle with
the indicators it has reached, or the end of the ramp. -/
def Obligations.RampOffEndRunsLoopHead : Prop :=
  (∀ b : Ssel, b &&& 0xF0#8 = 0xF0#8 → decodeSsel b = .rampOffEnd) ∧
    ∀ s : State, s.cfg.WellFormed →
      (s.preset.n ≤ s.i + 1 →
        exec .rampOffEnd s = .next { s with i := s.i + 1, motor := true, ms := .on, ph := .tc }) ∧
        (s.i + 1 < s.preset.n → ∃ led' : BitVec 5, led'.getLsbD 0 = s.led.getLsbD 0 ∧
          (∀ k : Fin 4, led'.getLsbD (k.val + 1) =
            (s.led.getLsbD (k.val + 1) || decide (s.preset.threshold k ≤ s.i + 1))) ∧
          exec .rampOffEnd s = .next { s with
            led := led', i := s.i + 1, motor := true, timer := s.preset.onTicks (s.i + 1) - 1, ph := .rampOn })

/-- 44_ramp_engine.md R131, R132: the on-time formula; in every step of every ramp the on-time is at most the period,
on-time and off-time make up the period exactly, and the on-times rise (00_scope.md R6, WF3). -/
def Obligations.OnTimePlusOffTimeIsPeriod : Prop :=
  ∀ (c : Cfg) (p : BitVec 2) (i : Nat),
    (c.presetRead p).onTicks i = i * (c.presetRead p).slope / 256 + (c.presetRead p).offset ∧
      (c.WellFormed → 1 ≤ i → i < (c.presetRead p).n →
        (c.presetRead p).onTicks i ≤ c.period ∧
        (c.presetRead p).onTicks i + (c.presetRead p).offTicks c.period i = c.period ∧
        (c.presetRead p).offTicks c.period i < c.period ∧
        (i + 1 < (c.presetRead p).n → (c.presetRead p).onTicks i < (c.presetRead p).onTicks (i + 1)))

/-- 44_ramp_engine.md R133: comparator k gives 1 exactly when 5 i >= k N, and the thresholds are staggered. -/
def Obligations.ComparatorsAtFifths : Prop :=
  ∀ (c : Cfg) (p : BitVec 2), c.WellFormed →
    (∀ (k : Fin 4) (i : Nat), (c.presetRead p).hit i k = true ↔ (k.val + 1) * (c.presetRead p).n ≤ 5 * i) ∧
      (c.presetRead p).th1 ≤ (c.presetRead p).th2 ∧ (c.presetRead p).th2 ≤ (c.presetRead p).th3 ∧
      (c.presetRead p).th3 ≤ (c.presetRead p).th4

/-! ## Invariants -/

/-- 10_state.md R21, R24: under every well-formed configuration the reset state, which `RESET` gives from any state, meets
INV1 to INV7, the tie of the indicators to the ramp, and the register widths. Start-up answers that state, and refuses an
ill-formed configuration before the first cycle (00_scope.md R6). `State.reset` meets INV1 to INV7 too, which carries the
configuration REF by the model's choice (log 1). -/
def Obligations.ResetStateIsSafe : Prop :=
  (∀ s : State, s.cfg.WellFormed → ∃ t, exec .reset s = .next t ∧ t.Inv ∧ t.LedsTrackRamp ∧ t.FitsWidths ∧
    t.cfg = s.cfg) ∧
    (∀ c : Cfg, c.WellFormed →
      boot c = .next (State.resetWith c) ∧ (State.resetWith c).Inv ∧ (State.resetWith c).LedsTrackRamp ∧
        (State.resetWith c).FitsWidths) ∧
    (∀ c : Cfg, ¬ c.WellFormed → boot c = .refused .configIllFormed) ∧
    State.reset.cfg = Config.ref ∧ Config.ref.WellFormed ∧ State.reset.Inv

/-- 10_state.md R24: INV1 to INV7 are kept by every step, under every well-formed configuration and every input. -/
def Obligations.EveryStepKeepsInvariants : Prop :=
  ∀ s t : State, s.Inv → step s = .next t → t.Inv

/-- 44_ramp_engine.md R133, R134, R142: every step keeps the indicators of a ramp exactly LED0 and those whose threshold
the step index has reached. -/
def Obligations.EveryStepKeepsLedsOnRamp : Prop :=
  ∀ s t : State, s.Inv → s.LedsTrackRamp → step s = .next t → t.LedsTrackRamp

/-- 00_scope.md R5, R6; 44_ramp_engine.md R140 c: `timer` and `i` always fit registers of `W_T` and `W_I` bits, so a model
with naturals loses nothing (log 2). -/
def Obligations.EveryStepKeepsWidths : Prop :=
  ∀ s t : State, s.Inv → s.FitsWidths → step s = .next t → t.FitsWidths

/-! ## Whole-machine rules -/

/-- 43_motor_state.md R110: in a state that meets the invariants the motor state changes only by the six transitions, each
on its event and with its outputs; a ramp of one step makes T1 and T2 in one cycle. -/
def Obligations.SixTransitions : Prop :=
  ∀ (s t : State) (lv : Inputs), s.Inv → lv.rst = false → cycle lv s = .next t →
    (t.ms = s.ms ∧ (t.led = s.led ∧ t.motor = s.motor ∨ s.ms = .rampingUp)) ∨
      (s.ms = .off ∧ t.ms = .rampingUp ∧ s.rampPrev = true ∧ lv.rampN = false ∧
        (s.ph ≠ .dispatch → t.led = s.led ∧ t.motor = s.motor)) ∨
      (s.ms = .rampingUp ∧ t.ms = .on ∧ t.motor = true ∧ s.preset.n ≤ t.i) ∨
      (s.ms = .on ∧ t.ms = .pendingOff ∧ s.rampPrev = true ∧ lv.rampN = false ∧ t.led = s.led ∧
        t.motor = s.motor) ∨
      (s.ms = .pendingOff ∧ t.ms = .off ∧ s.ph = .poffSettle ∧ s.timer = 0 ∧ t.led = 0b00000#5 ∧
        t.motor = false) ∨
      (s.ms = .off ∧ t.ms = .on ∧ s.ph = .stepSettle ∧ s.timer = 0 ∧ t.led = 0b11111#5 ∧ t.motor = true) ∨
      (s.ms = .on ∧ t.ms = .off ∧ s.ph = .stepSettle ∧ s.timer = 0 ∧ t.led = 0b00000#5 ∧ t.motor = false) ∨
      (s.ms = .off ∧ t.ms = .on ∧ s.rampPrev = true ∧ lv.rampN = false ∧ s.ph = .dispatch ∧ s.preset.n = 1 ∧
        t.motor = true)

/-- 60_exceptions.md R166: what each agent may write. A latch operation writes only `ms`, and only the two transitions the
latch may make when it is selected by its own selector; no sequencer operation writes `ramp_prev`. -/
def Obligations.AgentsWriteTheirOwn : Prop :=
  ∀ (s : State) (lv : Inputs), s.cfg.WellFormed →
    (∃ m, exec (latchOp lv s) s = .next { s with ms := m } ∧
      (m = s.ms ∨ (s.ms = .off ∧ m = .rampingUp) ∨ (s.ms = .on ∧ m = .pendingOff))) ∧
      ∃ t, exec (seqOp lv s) s = .next t ∧ t.rampPrev = s.rampPrev

/-- 44_ramp_engine.md R143: from the first cycle of a ramp on no input but `rst` has any effect except on the edge memory,
the button latches and the preset index stay, and the ramp goes on or completes. -/
def Obligations.RampIsNotPreempted : Prop :=
  ∀ s : State, s.cfg.WellFormed → s.Inv → s.InRamp →
    ∃ t : State, (∀ lv : Inputs, lv.rst = false → cycle lv s = .next { t with rampPrev := lv.rampN }) ∧
      t.pidx = s.pidx ∧ t.tcLatched = s.tcLatched ∧ t.stepLatched = s.stepLatched ∧
      ((t.InRamp ∧ t.ms = .rampingUp) ∨ (t.ph = .tc ∧ t.ms = .on ∧ t.motor = true ∧ t.i = s.preset.n))

/-- 10_state.md R16: without reset an indicator is cleared only when the whole bank is, together with the motor and with
`ms` becoming Off. -/
def Obligations.IndicatorsClearOnlyTogether : Prop :=
  ∀ (s t : State) (lv : Inputs), lv.rst = false → cycle lv s = .next t →
    (∀ k, s.led.getLsbD k = true → t.led.getLsbD k = true) ∨
      (t.led = 0b00000#5 ∧ t.motor = false ∧ t.ms = .off)

/-- 20_memory.md R37: the Timing-Change line is used only in phase `TC` and the Step line only in phase `STEP`. -/
def Obligations.LinesUsedOnlyWhenPolled : Prop :=
  ∀ (s : State) (lv lv' : Inputs), s.cfg.WellFormed → lv.rst = lv'.rst → lv.rampN = lv'.rampN →
    (s.ph = .tc → lv.tcN = lv'.tcN) → (s.ph = .step → lv.stepN = lv'.stepN) →
    ∃ t, cycle lv s = .next t ∧ cycle lv' s = .next t

/-- 70_reset_and_hazards.md R180: the first cycle after reset executes `LATCH_IDLE` and `DISP_IDLE`, whatever the lines
are. -/
def Obligations.FirstCycleAfterReset : Prop :=
  ∀ (s : State) (lv : Inputs), s.cfg.WellFormed → lv.rst = false →
    ∃ t, exec .reset s = .next t ∧ latchOp lv t = .latchIdle ∧ seqOp lv t = .dispIdle ∧
      cycle lv t = .next { t with ph := .tc, rampPrev := lv.rampN }

/-- 70_reset_and_hazards.md R183: lines held active through reset. The ramp-start line causes no edge; the Timing-Change
button advances the preset to 1 after the first settle delay; the Step button switches the motor on, with the ramp-start
line at either level. Where the Timing-Change poll of the second cycle finds its button released, that takes `SETTLE` + 3
cycles; where it finds it held as well, its settle delay comes first and the preset is 1. -/
def Obligations.LinesHeldThroughReset : Prop :=
  ∀ (s t : State) (lvs : List Inputs), s.cfg.WellFormed → exec .reset s = .next t → NoReset lvs →
    ((∀ lv ∈ lvs, lv.rampN = false) → ∃ u, runCycles lvs t = .next u ∧ ∀ lv, latchOp lv u = .latchIdle) ∧
      ((∀ lv ∈ lvs, lv.tcN = false) → lvs.length = s.cfg.settle + 2 →
        ∃ u, runCycles lvs t = .next u ∧ u.pidx = 1#2 ∧ u.ph = .step) ∧
      ∀ (ramp : Level) (first second : Inputs) (rest : List Inputs), lvs = first :: second :: rest →
        (∀ lv ∈ lvs, lv.rampN = ramp ∧ lv.stepN = false) →
        (second.tcN = true → lvs.length = s.cfg.settle + 3 →
          ∃ u, runCycles lvs t = .next u ∧ u.ms = .on ∧ u.motor = true ∧ u.led = 0b11111#5 ∧ u.pidx = 0#2) ∧
          (second.tcN = false → lvs.length = 2 * s.cfg.settle + 3 →
            ∃ u, runCycles lvs t = .next u ∧ u.ms = .on ∧ u.motor = true ∧ u.led = 0b11111#5 ∧ u.pidx = 1#2)

/-- 10_state.md R20, 40_cycle_step.md R73, 30_encoding.md R50: the outputs copy the registers, `mstate` in the code of the
rule, and two states with the same four registers have the same outputs. -/
def Obligations.OutputsCopyRegisters : Prop :=
  (∀ s : State, s.out.motor = s.motor ∧ s.out.led = s.led ∧ s.out.pidxO = s.pidx ∧
    (s.out.mstate.getLsbD 1 = true ↔ s.ms = .rampingUp ∨ s.ms = .pendingOff) ∧
    (s.out.mstate.getLsbD 0 = true ↔ s.ms = .on ∨ s.ms = .pendingOff)) ∧
    ∀ s t : State, s.out = t.out ↔ s.motor = t.motor ∧ s.led = t.led ∧ s.ms = t.ms ∧ s.pidx = t.pidx

/-! ## Runs of cycles under arbitrary input levels -/

/-- 10_state.md R19: in a timed phase nothing but `timer`, `ms` and the edge memory changes until `timer` is 0, whatever the
lines do. -/
def Obligations.TimedPhaseWaits : Prop :=
  ∀ (s : State) (lvs : List Inputs), s.cfg.WellFormed → s.ph.Timed → NoReset lvs → lvs.length ≤ s.timer →
    ∃ t, runCycles lvs s = .next t ∧
      t = { s with timer := s.timer - lvs.length, ms := t.ms, rampPrev := t.rampPrev }

/-- 42_debounce.md R101: the Timing-Change event fires exactly `SETTLE` cycles after the press and its effect is in the
state after it; no line is examined in between. -/
def Obligations.TcPressFiresAfterSettle : Prop :=
  ∀ (s : State) (lv : Inputs) (rest : List Inputs), s.cfg.WellFormed → s.ph = .tc → s.tcLatched = false →
    lv.tcN = false → NoReset (lv :: rest) → rest.length = s.cfg.settle →
    ∃ t, runCycles (lv :: rest) s = .next t ∧
      t = { s with
        tcLatched := true, pidx := s.pidx + 1#2, ph := .step, timer := 0, ms := t.ms, rampPrev := t.rampPrev }

/-- 43_motor_state.md R117, R118, R119: a Step press with no edge toggles the motor `SETTLE` + 1 cycles after its sample,
between Off and On only, and does nothing in the other two states. -/
def Obligations.StepPressToggles : Prop :=
  ∀ (s : State) (lv : Inputs) (rest : List Inputs), s.cfg.WellFormed → s.ph = .step → s.stepLatched = false →
    lv.stepN = false → NoReset (lv :: rest) → RampLineInactive (lv :: rest) → rest.length = s.cfg.settle →
    (s.ms = .off → runCycles (lv :: rest) s = .next { s with
      stepLatched := true, ms := .on, motor := true, led := 0b11111#5, ph := .dispatch, timer := 0
      rampPrev := true }) ∧
      (s.ms = .on → runCycles (lv :: rest) s = .next { s with
        stepLatched := true, ms := .off, motor := false, led := 0b00000#5, ph := .dispatch, timer := 0
        rampPrev := true }) ∧
      (s.ms = .rampingUp ∨ s.ms = .pendingOff → runCycles (lv :: rest) s = .next { s with
        stepLatched := true, ph := .dispatch, timer := 0, rampPrev := true })

/-- 43_motor_state.md R114, R115, R116: from the `DISPATCH` cycle that finds the line inactive in PendingOff, `SETTLE` + 1
cycles lead to Off with all outputs cleared, whatever the lines do in between. -/
def Obligations.PendingOffShutsDown : Prop :=
  ∀ (s : State) (lv : Inputs) (rest : List Inputs), s.cfg.WellFormed → s.ph = .dispatch → s.ms = .pendingOff →
    lv.rampN = true → NoReset (lv :: rest) → rest.length = s.cfg.settle →
    ∃ t, runCycles (lv :: rest) s = .next t ∧
      t = { s with
        ms := .off, motor := false, led := 0b00000#5, ph := .tc, timer := 0, rampPrev := t.rampPrev }

/-- 70_reset_and_hazards.md R197, 43_motor_state.md R113: a ramp-start line stuck active after a stop request keeps the
motor as it is in PendingOff for ever. -/
def Obligations.StuckRampLineKeepsMotor : Prop :=
  ∀ (s : State) (lvs : List Inputs), s.cfg.WellFormed → s.ms = .pendingOff → ¬ s.InRamp → s.ph ≠ .poffSettle →
    NoReset lvs → (∀ lv ∈ lvs, lv.rampN = false) →
    ∃ t, runCycles lvs s = .next t ∧ t.ms = .pendingOff ∧ t.motor = s.motor ∧ t.led = s.led

/-- 44_ramp_engine.md R142, first clause: PWM cycle j of a ramp begun in cycle t0 occupies the `PERIOD` cycles from
t0 + 1 + (j - 1) `PERIOD` on; the motor is high in the first `on_ticks` of them and low in the rest; LED0 is on, and
LEDk once the step has reached its threshold. All under any inputs without reset. -/
def Obligations.PwmWaveform : Prop :=
  ∀ (s : State) (lvs : List Inputs) (j k : Nat), s.cfg.WellFormed → s.ph = .dispatch → s.ms = .rampingUp →
    1 ≤ j → j < s.preset.n → k < s.cfg.period → lvs.length = 1 + (j - 1) * s.cfg.period + k → NoReset lvs →
    ∃ t, runCycles lvs s = .next t ∧ t.ms = .rampingUp ∧ t.i = j ∧ t.pidx = s.pidx ∧
      (t.motor = true ↔ k < s.preset.onTicks j) ∧
      t.ph = (if k < s.preset.onTicks j then .rampOn else .rampOff) ∧ t.led.getLsbD 0 = true ∧
      ∀ m : Fin 4, t.led.getLsbD (m.val + 1) = (s.led.getLsbD (m.val + 1) || decide (s.preset.threshold m ≤ j))

/-- 44_ramp_engine.md R142, second clause; 70_reset_and_hazards.md R201: a ramp takes 1 + (N - 1) `PERIOD` cycles from its
`RAMP_BEGIN` cycle to the first state in On, with the motor high, under any inputs without reset. -/
def Obligations.RampCompletesOnTime : Prop :=
  ∀ (s : State) (lvs : List Inputs), s.cfg.WellFormed → s.ph = .dispatch → s.ms = .rampingUp →
    lvs.length = 1 + (s.preset.n - 1) * s.cfg.period → NoReset lvs →
    ∃ t, runCycles lvs s = .next t ∧ t.ms = .on ∧ t.motor = true ∧ t.ph = .tc ∧ t.i = s.preset.n ∧
      t.pidx = s.pidx ∧ t.tcLatched = s.tcLatched ∧ t.stepLatched = s.stepLatched ∧ t.led.getLsbD 0 = true ∧
      ∀ m : Fin 4, t.led.getLsbD (m.val + 1) =
        (s.led.getLsbD (m.val + 1) || decide (s.preset.threshold m ≤ s.preset.n - 1))

/-- 40_cycle_step.md R74, 70_reset_and_hazards.md R201: with no button pressed, no edge and `ms` Off or On an iteration is
three cycles and changes nothing but the two latches, which it clears, and the edge memory. -/
def Obligations.IdleIterationIsThreeCycles : Prop :=
  ∀ (s : State) (a b c : Inputs), s.cfg.WellFormed → s.ph = .dispatch → s.ms = .off ∨ s.ms = .on →
    NoReset [a, b, c] → RampLineInactive [a, b, c] → b.tcN = true → c.stepN = true →
    runCycles [a, b, c] s = .next { s with tcLatched := false, stepLatched := false, rampPrev := true }

/-- 42_debounce.md R101: while a channel whose press is accepted samples its line at 0, it accepts no second press: the
preset does not change again, and the Step settle delay does not start again. -/
def Obligations.OneEventPerPress : Prop :=
  ∀ (s : State) (lvs : List Inputs), s.cfg.WellFormed → NoReset lvs →
    (s.tcLatched = true → s.ph ≠ .tcSettle → (∀ lv ∈ lvs, lv.tcN = false) →
      ∃ t, runCycles lvs s = .next t ∧ t.pidx = s.pidx ∧ t.tcLatched = true ∧ t.ph ≠ .tcSettle) ∧
      (s.stepLatched = true → s.ph ≠ .stepSettle → (∀ lv ∈ lvs, lv.stepN = false) →
        ∃ t, runCycles lvs s = .next t ∧ t.stepLatched = true ∧ t.ph ≠ .stepSettle)

/-- 70_reset_and_hazards.md R195: an edge in Off or On reaches a `DISPATCH` cycle, with the motor state it wrote still
there, at most 2 `SETTLE` + 2 cycles later, whatever the lines do. -/
def Obligations.EdgeToDispatchBounded : Prop :=
  ∀ (s : State) (lv : Inputs) (rest : List Inputs), s.cfg.WellFormed → s.Inv → s.ms = .off ∨ s.ms = .on →
    s.rampPrev = true → lv.rampN = false → NoReset (lv :: rest) → rest.length = 2 * s.cfg.settle + 1 →
    ∃ k t, k ≤ 2 * s.cfg.settle + 2 ∧ runCycles ((lv :: rest).take k) s = .next t ∧ t.ph = .dispatch ∧
      (k = 0 ∨ t.ms = if s.ms = .off then .rampingUp else .pendingOff)
end

