-- ==== Sys2Proof/Laws/Decode.lean ====
section
/-!
SUPPORT. The state encodings are one to one, and the decode of a selector the machine forms is the selection by its
fields.
-/
namespace Sys2Proof

@[simp] theorem MotorState.ofBits_toBits (m : MotorState) : MotorState.ofBits m.toBits = m := by
  cases m <;> decide

@[simp] theorem Phase.ofBits_toBits (p : Phase) : Phase.ofBits p.toBits = p := by
  cases p <;> decide

/-- The fields of a latch selector, decoded, are the fields it was formed from. -/
theorem decodeLsel_fields (edge : Bool) (m : MotorState) :
    decodeLsel (BitVec.ofBool edge ++ m.toBits) = selectLatch edge m := by
  cases edge <;> cases m <;> decide

/-- The fields of a sequencer selector, decoded, are the fields it was formed from. -/
theorem decodeSsel_fields (p : Phase) (tz lvl lat : Bool) (m : MotorState) :
    decodeSsel (p.toBits ++ BitVec.ofBool tz ++ BitVec.ofBool lvl ++ BitVec.ofBool lat ++ m.toBits)
      = selectSeq p tz lvl lat m := by
  cases p <;> cases tz <;> cases lvl <;> cases lat <;> cases m <;> decide

end Sys2Proof
end

