-- ==== Sys2Proof/Laws/State.lean ====
section
/-!
SUPPORT. One lemma per field per setter of `State`, true by `rfl`.
-/
namespace Sys2Proof.Machine

@[simp] theorem State.setMs_ms (v : MotorState) (s : State) : (s.setMs v).ms = v := rfl
@[simp] theorem State.setMs_pidx (v : MotorState) (s : State) : (s.setMs v).pidx = s.pidx := rfl
@[simp] theorem State.setMs_tcLatched (v : MotorState) (s : State) : (s.setMs v).tcLatched = s.tcLatched := rfl
@[simp] theorem State.setMs_stepLatched (v : MotorState) (s : State) : (s.setMs v).stepLatched = s.stepLatched := rfl
@[simp] theorem State.setMs_led (v : MotorState) (s : State) : (s.setMs v).led = s.led := rfl
@[simp] theorem State.setMs_motor (v : MotorState) (s : State) : (s.setMs v).motor = s.motor := rfl
@[simp] theorem State.setMs_ph (v : MotorState) (s : State) : (s.setMs v).ph = s.ph := rfl
@[simp] theorem State.setMs_timer (v : MotorState) (s : State) : (s.setMs v).timer = s.timer := rfl
@[simp] theorem State.setMs_i (v : MotorState) (s : State) : (s.setMs v).i = s.i := rfl
@[simp] theorem State.setMs_rampPrev (v : MotorState) (s : State) : (s.setMs v).rampPrev = s.rampPrev := rfl
@[simp] theorem State.setMs_cfg (v : MotorState) (s : State) : (s.setMs v).cfg = s.cfg := rfl
@[simp] theorem State.setMs_stim (v : MotorState) (s : State) : (s.setMs v).stim = s.stim := rfl
@[simp] theorem State.setMs_tick (v : MotorState) (s : State) : (s.setMs v).tick = s.tick := rfl

@[simp] theorem State.setPidx_ms (v : BitVec 2) (s : State) : (s.setPidx v).ms = s.ms := rfl
@[simp] theorem State.setPidx_pidx (v : BitVec 2) (s : State) : (s.setPidx v).pidx = v := rfl
@[simp] theorem State.setPidx_tcLatched (v : BitVec 2) (s : State) : (s.setPidx v).tcLatched = s.tcLatched := rfl
@[simp] theorem State.setPidx_stepLatched (v : BitVec 2) (s : State) : (s.setPidx v).stepLatched = s.stepLatched := rfl
@[simp] theorem State.setPidx_led (v : BitVec 2) (s : State) : (s.setPidx v).led = s.led := rfl
@[simp] theorem State.setPidx_motor (v : BitVec 2) (s : State) : (s.setPidx v).motor = s.motor := rfl
@[simp] theorem State.setPidx_ph (v : BitVec 2) (s : State) : (s.setPidx v).ph = s.ph := rfl
@[simp] theorem State.setPidx_timer (v : BitVec 2) (s : State) : (s.setPidx v).timer = s.timer := rfl
@[simp] theorem State.setPidx_i (v : BitVec 2) (s : State) : (s.setPidx v).i = s.i := rfl
@[simp] theorem State.setPidx_rampPrev (v : BitVec 2) (s : State) : (s.setPidx v).rampPrev = s.rampPrev := rfl
@[simp] theorem State.setPidx_cfg (v : BitVec 2) (s : State) : (s.setPidx v).cfg = s.cfg := rfl
@[simp] theorem State.setPidx_stim (v : BitVec 2) (s : State) : (s.setPidx v).stim = s.stim := rfl
@[simp] theorem State.setPidx_tick (v : BitVec 2) (s : State) : (s.setPidx v).tick = s.tick := rfl

@[simp] theorem State.setTcLatched_ms (v : Bool) (s : State) : (s.setTcLatched v).ms = s.ms := rfl
@[simp] theorem State.setTcLatched_pidx (v : Bool) (s : State) : (s.setTcLatched v).pidx = s.pidx := rfl
@[simp] theorem State.setTcLatched_tcLatched (v : Bool) (s : State) : (s.setTcLatched v).tcLatched = v := rfl
@[simp] theorem State.setTcLatched_stepLatched (v : Bool) (s : State) : (s.setTcLatched v).stepLatched = s.stepLatched := rfl
@[simp] theorem State.setTcLatched_led (v : Bool) (s : State) : (s.setTcLatched v).led = s.led := rfl
@[simp] theorem State.setTcLatched_motor (v : Bool) (s : State) : (s.setTcLatched v).motor = s.motor := rfl
@[simp] theorem State.setTcLatched_ph (v : Bool) (s : State) : (s.setTcLatched v).ph = s.ph := rfl
@[simp] theorem State.setTcLatched_timer (v : Bool) (s : State) : (s.setTcLatched v).timer = s.timer := rfl
@[simp] theorem State.setTcLatched_i (v : Bool) (s : State) : (s.setTcLatched v).i = s.i := rfl
@[simp] theorem State.setTcLatched_rampPrev (v : Bool) (s : State) : (s.setTcLatched v).rampPrev = s.rampPrev := rfl
@[simp] theorem State.setTcLatched_cfg (v : Bool) (s : State) : (s.setTcLatched v).cfg = s.cfg := rfl
@[simp] theorem State.setTcLatched_stim (v : Bool) (s : State) : (s.setTcLatched v).stim = s.stim := rfl
@[simp] theorem State.setTcLatched_tick (v : Bool) (s : State) : (s.setTcLatched v).tick = s.tick := rfl

@[simp] theorem State.setStepLatched_ms (v : Bool) (s : State) : (s.setStepLatched v).ms = s.ms := rfl
@[simp] theorem State.setStepLatched_pidx (v : Bool) (s : State) : (s.setStepLatched v).pidx = s.pidx := rfl
@[simp] theorem State.setStepLatched_tcLatched (v : Bool) (s : State) : (s.setStepLatched v).tcLatched = s.tcLatched := rfl
@[simp] theorem State.setStepLatched_stepLatched (v : Bool) (s : State) : (s.setStepLatched v).stepLatched = v := rfl
@[simp] theorem State.setStepLatched_led (v : Bool) (s : State) : (s.setStepLatched v).led = s.led := rfl
@[simp] theorem State.setStepLatched_motor (v : Bool) (s : State) : (s.setStepLatched v).motor = s.motor := rfl
@[simp] theorem State.setStepLatched_ph (v : Bool) (s : State) : (s.setStepLatched v).ph = s.ph := rfl
@[simp] theorem State.setStepLatched_timer (v : Bool) (s : State) : (s.setStepLatched v).timer = s.timer := rfl
@[simp] theorem State.setStepLatched_i (v : Bool) (s : State) : (s.setStepLatched v).i = s.i := rfl
@[simp] theorem State.setStepLatched_rampPrev (v : Bool) (s : State) : (s.setStepLatched v).rampPrev = s.rampPrev := rfl
@[simp] theorem State.setStepLatched_cfg (v : Bool) (s : State) : (s.setStepLatched v).cfg = s.cfg := rfl
@[simp] theorem State.setStepLatched_stim (v : Bool) (s : State) : (s.setStepLatched v).stim = s.stim := rfl
@[simp] theorem State.setStepLatched_tick (v : Bool) (s : State) : (s.setStepLatched v).tick = s.tick := rfl

@[simp] theorem State.setLed_ms (v : BitVec 5) (s : State) : (s.setLed v).ms = s.ms := rfl
@[simp] theorem State.setLed_pidx (v : BitVec 5) (s : State) : (s.setLed v).pidx = s.pidx := rfl
@[simp] theorem State.setLed_tcLatched (v : BitVec 5) (s : State) : (s.setLed v).tcLatched = s.tcLatched := rfl
@[simp] theorem State.setLed_stepLatched (v : BitVec 5) (s : State) : (s.setLed v).stepLatched = s.stepLatched := rfl
@[simp] theorem State.setLed_led (v : BitVec 5) (s : State) : (s.setLed v).led = v := rfl
@[simp] theorem State.setLed_motor (v : BitVec 5) (s : State) : (s.setLed v).motor = s.motor := rfl
@[simp] theorem State.setLed_ph (v : BitVec 5) (s : State) : (s.setLed v).ph = s.ph := rfl
@[simp] theorem State.setLed_timer (v : BitVec 5) (s : State) : (s.setLed v).timer = s.timer := rfl
@[simp] theorem State.setLed_i (v : BitVec 5) (s : State) : (s.setLed v).i = s.i := rfl
@[simp] theorem State.setLed_rampPrev (v : BitVec 5) (s : State) : (s.setLed v).rampPrev = s.rampPrev := rfl
@[simp] theorem State.setLed_cfg (v : BitVec 5) (s : State) : (s.setLed v).cfg = s.cfg := rfl
@[simp] theorem State.setLed_stim (v : BitVec 5) (s : State) : (s.setLed v).stim = s.stim := rfl
@[simp] theorem State.setLed_tick (v : BitVec 5) (s : State) : (s.setLed v).tick = s.tick := rfl

@[simp] theorem State.setMotor_ms (v : Bool) (s : State) : (s.setMotor v).ms = s.ms := rfl
@[simp] theorem State.setMotor_pidx (v : Bool) (s : State) : (s.setMotor v).pidx = s.pidx := rfl
@[simp] theorem State.setMotor_tcLatched (v : Bool) (s : State) : (s.setMotor v).tcLatched = s.tcLatched := rfl
@[simp] theorem State.setMotor_stepLatched (v : Bool) (s : State) : (s.setMotor v).stepLatched = s.stepLatched := rfl
@[simp] theorem State.setMotor_led (v : Bool) (s : State) : (s.setMotor v).led = s.led := rfl
@[simp] theorem State.setMotor_motor (v : Bool) (s : State) : (s.setMotor v).motor = v := rfl
@[simp] theorem State.setMotor_ph (v : Bool) (s : State) : (s.setMotor v).ph = s.ph := rfl
@[simp] theorem State.setMotor_timer (v : Bool) (s : State) : (s.setMotor v).timer = s.timer := rfl
@[simp] theorem State.setMotor_i (v : Bool) (s : State) : (s.setMotor v).i = s.i := rfl
@[simp] theorem State.setMotor_rampPrev (v : Bool) (s : State) : (s.setMotor v).rampPrev = s.rampPrev := rfl
@[simp] theorem State.setMotor_cfg (v : Bool) (s : State) : (s.setMotor v).cfg = s.cfg := rfl
@[simp] theorem State.setMotor_stim (v : Bool) (s : State) : (s.setMotor v).stim = s.stim := rfl
@[simp] theorem State.setMotor_tick (v : Bool) (s : State) : (s.setMotor v).tick = s.tick := rfl

@[simp] theorem State.setPh_ms (v : Phase) (s : State) : (s.setPh v).ms = s.ms := rfl
@[simp] theorem State.setPh_pidx (v : Phase) (s : State) : (s.setPh v).pidx = s.pidx := rfl
@[simp] theorem State.setPh_tcLatched (v : Phase) (s : State) : (s.setPh v).tcLatched = s.tcLatched := rfl
@[simp] theorem State.setPh_stepLatched (v : Phase) (s : State) : (s.setPh v).stepLatched = s.stepLatched := rfl
@[simp] theorem State.setPh_led (v : Phase) (s : State) : (s.setPh v).led = s.led := rfl
@[simp] theorem State.setPh_motor (v : Phase) (s : State) : (s.setPh v).motor = s.motor := rfl
@[simp] theorem State.setPh_ph (v : Phase) (s : State) : (s.setPh v).ph = v := rfl
@[simp] theorem State.setPh_timer (v : Phase) (s : State) : (s.setPh v).timer = s.timer := rfl
@[simp] theorem State.setPh_i (v : Phase) (s : State) : (s.setPh v).i = s.i := rfl
@[simp] theorem State.setPh_rampPrev (v : Phase) (s : State) : (s.setPh v).rampPrev = s.rampPrev := rfl
@[simp] theorem State.setPh_cfg (v : Phase) (s : State) : (s.setPh v).cfg = s.cfg := rfl
@[simp] theorem State.setPh_stim (v : Phase) (s : State) : (s.setPh v).stim = s.stim := rfl
@[simp] theorem State.setPh_tick (v : Phase) (s : State) : (s.setPh v).tick = s.tick := rfl

@[simp] theorem State.setTimer_ms (v : Nat) (s : State) : (s.setTimer v).ms = s.ms := rfl
@[simp] theorem State.setTimer_pidx (v : Nat) (s : State) : (s.setTimer v).pidx = s.pidx := rfl
@[simp] theorem State.setTimer_tcLatched (v : Nat) (s : State) : (s.setTimer v).tcLatched = s.tcLatched := rfl
@[simp] theorem State.setTimer_stepLatched (v : Nat) (s : State) : (s.setTimer v).stepLatched = s.stepLatched := rfl
@[simp] theorem State.setTimer_led (v : Nat) (s : State) : (s.setTimer v).led = s.led := rfl
@[simp] theorem State.setTimer_motor (v : Nat) (s : State) : (s.setTimer v).motor = s.motor := rfl
@[simp] theorem State.setTimer_ph (v : Nat) (s : State) : (s.setTimer v).ph = s.ph := rfl
@[simp] theorem State.setTimer_timer (v : Nat) (s : State) : (s.setTimer v).timer = v := rfl
@[simp] theorem State.setTimer_i (v : Nat) (s : State) : (s.setTimer v).i = s.i := rfl
@[simp] theorem State.setTimer_rampPrev (v : Nat) (s : State) : (s.setTimer v).rampPrev = s.rampPrev := rfl
@[simp] theorem State.setTimer_cfg (v : Nat) (s : State) : (s.setTimer v).cfg = s.cfg := rfl
@[simp] theorem State.setTimer_stim (v : Nat) (s : State) : (s.setTimer v).stim = s.stim := rfl
@[simp] theorem State.setTimer_tick (v : Nat) (s : State) : (s.setTimer v).tick = s.tick := rfl

@[simp] theorem State.setI_ms (v : Nat) (s : State) : (s.setI v).ms = s.ms := rfl
@[simp] theorem State.setI_pidx (v : Nat) (s : State) : (s.setI v).pidx = s.pidx := rfl
@[simp] theorem State.setI_tcLatched (v : Nat) (s : State) : (s.setI v).tcLatched = s.tcLatched := rfl
@[simp] theorem State.setI_stepLatched (v : Nat) (s : State) : (s.setI v).stepLatched = s.stepLatched := rfl
@[simp] theorem State.setI_led (v : Nat) (s : State) : (s.setI v).led = s.led := rfl
@[simp] theorem State.setI_motor (v : Nat) (s : State) : (s.setI v).motor = s.motor := rfl
@[simp] theorem State.setI_ph (v : Nat) (s : State) : (s.setI v).ph = s.ph := rfl
@[simp] theorem State.setI_timer (v : Nat) (s : State) : (s.setI v).timer = s.timer := rfl
@[simp] theorem State.setI_i (v : Nat) (s : State) : (s.setI v).i = v := rfl
@[simp] theorem State.setI_rampPrev (v : Nat) (s : State) : (s.setI v).rampPrev = s.rampPrev := rfl
@[simp] theorem State.setI_cfg (v : Nat) (s : State) : (s.setI v).cfg = s.cfg := rfl
@[simp] theorem State.setI_stim (v : Nat) (s : State) : (s.setI v).stim = s.stim := rfl
@[simp] theorem State.setI_tick (v : Nat) (s : State) : (s.setI v).tick = s.tick := rfl

@[simp] theorem State.setRampPrev_ms (v : Bool) (s : State) : (s.setRampPrev v).ms = s.ms := rfl
@[simp] theorem State.setRampPrev_pidx (v : Bool) (s : State) : (s.setRampPrev v).pidx = s.pidx := rfl
@[simp] theorem State.setRampPrev_tcLatched (v : Bool) (s : State) : (s.setRampPrev v).tcLatched = s.tcLatched := rfl
@[simp] theorem State.setRampPrev_stepLatched (v : Bool) (s : State) : (s.setRampPrev v).stepLatched = s.stepLatched := rfl
@[simp] theorem State.setRampPrev_led (v : Bool) (s : State) : (s.setRampPrev v).led = s.led := rfl
@[simp] theorem State.setRampPrev_motor (v : Bool) (s : State) : (s.setRampPrev v).motor = s.motor := rfl
@[simp] theorem State.setRampPrev_ph (v : Bool) (s : State) : (s.setRampPrev v).ph = s.ph := rfl
@[simp] theorem State.setRampPrev_timer (v : Bool) (s : State) : (s.setRampPrev v).timer = s.timer := rfl
@[simp] theorem State.setRampPrev_i (v : Bool) (s : State) : (s.setRampPrev v).i = s.i := rfl
@[simp] theorem State.setRampPrev_rampPrev (v : Bool) (s : State) : (s.setRampPrev v).rampPrev = v := rfl
@[simp] theorem State.setRampPrev_cfg (v : Bool) (s : State) : (s.setRampPrev v).cfg = s.cfg := rfl
@[simp] theorem State.setRampPrev_stim (v : Bool) (s : State) : (s.setRampPrev v).stim = s.stim := rfl
@[simp] theorem State.setRampPrev_tick (v : Bool) (s : State) : (s.setRampPrev v).tick = s.tick := rfl

@[simp] theorem State.setStim_ms (v : List StimWord) (s : State) : (s.setStim v).ms = s.ms := rfl
@[simp] theorem State.setStim_pidx (v : List StimWord) (s : State) : (s.setStim v).pidx = s.pidx := rfl
@[simp] theorem State.setStim_tcLatched (v : List StimWord) (s : State) : (s.setStim v).tcLatched = s.tcLatched := rfl
@[simp] theorem State.setStim_stepLatched (v : List StimWord) (s : State) : (s.setStim v).stepLatched = s.stepLatched := rfl
@[simp] theorem State.setStim_led (v : List StimWord) (s : State) : (s.setStim v).led = s.led := rfl
@[simp] theorem State.setStim_motor (v : List StimWord) (s : State) : (s.setStim v).motor = s.motor := rfl
@[simp] theorem State.setStim_ph (v : List StimWord) (s : State) : (s.setStim v).ph = s.ph := rfl
@[simp] theorem State.setStim_timer (v : List StimWord) (s : State) : (s.setStim v).timer = s.timer := rfl
@[simp] theorem State.setStim_i (v : List StimWord) (s : State) : (s.setStim v).i = s.i := rfl
@[simp] theorem State.setStim_rampPrev (v : List StimWord) (s : State) : (s.setStim v).rampPrev = s.rampPrev := rfl
@[simp] theorem State.setStim_cfg (v : List StimWord) (s : State) : (s.setStim v).cfg = s.cfg := rfl
@[simp] theorem State.setStim_stim (v : List StimWord) (s : State) : (s.setStim v).stim = v := rfl
@[simp] theorem State.setStim_tick (v : List StimWord) (s : State) : (s.setStim v).tick = s.tick := rfl

@[simp] theorem State.setTick_ms (v : Nat) (s : State) : (s.setTick v).ms = s.ms := rfl
@[simp] theorem State.setTick_pidx (v : Nat) (s : State) : (s.setTick v).pidx = s.pidx := rfl
@[simp] theorem State.setTick_tcLatched (v : Nat) (s : State) : (s.setTick v).tcLatched = s.tcLatched := rfl
@[simp] theorem State.setTick_stepLatched (v : Nat) (s : State) : (s.setTick v).stepLatched = s.stepLatched := rfl
@[simp] theorem State.setTick_led (v : Nat) (s : State) : (s.setTick v).led = s.led := rfl
@[simp] theorem State.setTick_motor (v : Nat) (s : State) : (s.setTick v).motor = s.motor := rfl
@[simp] theorem State.setTick_ph (v : Nat) (s : State) : (s.setTick v).ph = s.ph := rfl
@[simp] theorem State.setTick_timer (v : Nat) (s : State) : (s.setTick v).timer = s.timer := rfl
@[simp] theorem State.setTick_i (v : Nat) (s : State) : (s.setTick v).i = s.i := rfl
@[simp] theorem State.setTick_rampPrev (v : Nat) (s : State) : (s.setTick v).rampPrev = s.rampPrev := rfl
@[simp] theorem State.setTick_cfg (v : Nat) (s : State) : (s.setTick v).cfg = s.cfg := rfl
@[simp] theorem State.setTick_stim (v : Nat) (s : State) : (s.setTick v).stim = s.stim := rfl
@[simp] theorem State.setTick_tick (v : Nat) (s : State) : (s.setTick v).tick = v := rfl

@[simp] theorem State.resetWith_ms (c : Cfg) : (State.resetWith c).ms = .off := rfl
@[simp] theorem State.resetWith_pidx (c : Cfg) : (State.resetWith c).pidx = 0#2 := rfl
@[simp] theorem State.resetWith_tcLatched (c : Cfg) : (State.resetWith c).tcLatched = false := rfl
@[simp] theorem State.resetWith_stepLatched (c : Cfg) : (State.resetWith c).stepLatched = false := rfl
@[simp] theorem State.resetWith_led (c : Cfg) : (State.resetWith c).led = 0#5 := rfl
@[simp] theorem State.resetWith_motor (c : Cfg) : (State.resetWith c).motor = false := rfl
@[simp] theorem State.resetWith_ph (c : Cfg) : (State.resetWith c).ph = .dispatch := rfl
@[simp] theorem State.resetWith_timer (c : Cfg) : (State.resetWith c).timer = 0 := rfl
@[simp] theorem State.resetWith_i (c : Cfg) : (State.resetWith c).i = 0 := rfl
@[simp] theorem State.resetWith_rampPrev (c : Cfg) : (State.resetWith c).rampPrev = false := rfl
@[simp] theorem State.resetWith_cfg (c : Cfg) : (State.resetWith c).cfg = c := rfl
@[simp] theorem State.resetWith_stim (c : Cfg) : (State.resetWith c).stim = [] := rfl
@[simp] theorem State.resetWith_tick (c : Cfg) : (State.resetWith c).tick = 0 := rfl

end Sys2Proof.Machine
end

