-- ==== Sys2Proof/Laws/WellFormed.lean ====
section
/-!
SUPPORT. The checks of a configuration say what they check, and what a well-formed preset gives.
-/
namespace Sys2Proof

/-- The check of a preset says what it checks. -/
theorem Preset.check_iff (period : Nat) (r : Preset) : r.check period = true ↔ r.WellFormed period := by
  simp only [Preset.check, Bool.and_eq_true, decide_eq_true_iff]
  exact ⟨fun ⟨⟨⟨a, b⟩, c⟩, d⟩ => ⟨a, b, c, d⟩, fun ⟨a, b, c, d⟩ => ⟨⟨⟨a, b⟩, c⟩, d⟩⟩

/-- The check of a configuration says what it checks. -/
theorem Cfg.check_iff (c : Cfg) : c.check = true ↔ c.WellFormed := by
  simp only [Cfg.check, Bool.and_eq_true, decide_eq_true_iff, Preset.check_iff]
  exact ⟨fun ⟨⟨⟨⟨⟨⟨⟨a, b⟩, p0⟩, p1⟩, p2⟩, p3⟩, s⟩, w⟩ => ⟨a, b, p0, p1, p2, p3, s, w⟩,
    fun ⟨a, b, p0, p1, p2, p3, s, w⟩ => ⟨⟨⟨⟨⟨⟨⟨a, b⟩, p0⟩, p1⟩, p2⟩, p3⟩, s⟩, w⟩⟩

/-- Every record that `PresetRead` returns is well-formed under a well-formed configuration. -/
theorem Cfg.WellFormed.presetRead (c : Cfg) (h : c.WellFormed) (p : BitVec 2) :
    (c.presetRead p).WellFormed c.period := by
  unfold Cfg.presetRead
  split
  · exact h.preset0
  split
  · exact h.preset1
  split
  · exact h.preset2
  · exact h.preset3

/-- The settle delay of a well-formed configuration is not empty. -/
theorem Cfg.WellFormed.settle_pos (c : Cfg) (h : c.WellFormed) : 1 ≤ c.settle := by
  have h1 := h.clkPos
  have h2 := h.settleTenMs
  omega

end Sys2Proof
end

