-- ==== Sys2Proof/Laws/Ops.lean ====
section
/-!
SUPPORT. What each shared operation does, once: the configuration check, the subtraction, the delay pair, the loop head
of the ramp, and the effect of every operation.
-/
namespace Sys2Proof.Machine

/-- Where it does not wrap, the subtraction is the one of naturals. -/
theorem natSub_of_le (a b : Nat) (h : b ≤ a) : natSub a b = a - b := if_pos h

/-- Under a well-formed configuration an operation answers its state. -/
theorem underConfig_wf (s s' : State) (h : s.cfg.WellFormed) : underConfig s s' = .next s' :=
  if_pos ((Cfg.check_iff _).mpr h)

/-- Under an ill-formed configuration an operation is refused. -/
theorem underConfig_illFormed (s s' : State) (h : ¬ s.cfg.WellFormed) :
    underConfig s s' = .refused .configIllFormed :=
  if_neg fun hc => h ((Cfg.check_iff _).mp hc)

/-- All the configuration check can do. -/
theorem underConfig_next_iff (s s' t : State) :
    underConfig s s' = .next t ↔ s.cfg.WellFormed ∧ t = s' := by
  by_cases h : s.cfg.WellFormed
  · rw [underConfig_wf s s' h]
    exact ⟨fun e => ⟨h, (Host.Outcome.next.inj e).symm⟩, fun ⟨_, e⟩ => by rw [e]⟩
  · rw [underConfig_illFormed s s' h]
    exact ⟨fun e => (nomatch e), fun ⟨hw, _⟩ => absurd hw h⟩

/-- `StartDelay(D, P)` with D >= 1. -/
theorem State.startDelay_eq (d : Nat) (p : Phase) (s : State) (h : 1 ≤ d) :
    s.startDelay d p = { s with timer := d - 1, ph := p } := by
  unfold State.startDelay
  rw [natSub_of_le d 1 h]
  rfl

/-- A waiting cycle with `timer` not 0. -/
theorem State.countDown_eq (s : State) (h : s.timer ≠ 0) :
    s.countDown = { s with timer := s.timer - 1 } := by
  unfold State.countDown
  rw [natSub_of_le s.timer 1 (by omega)]
  rfl

/-- `BeginCycle(j)` with the loop exhausted. -/
theorem State.beginCycle_exit (j : Nat) (s : State) (h : s.preset.n ≤ j) :
    s.beginCycle j = { s with i := j, motor := true, ms := .on, ph := .tc } := by
  unfold State.beginCycle
  rw [if_pos h]
  rfl

/-- `BeginCycle(j)` with PWM cycle `j` to run. -/
theorem State.beginCycle_cycle (j : Nat) (s : State) (h : j < s.preset.n) (hon : 1 ≤ s.preset.onTicks j) :
    s.beginCycle j =
      { s with
        i := j, led := s.led ||| s.preset.hits j, motor := true
        timer := s.preset.onTicks j - 1, ph := .rampOn } := by
  unfold State.beginCycle
  rw [if_neg (by omega)]
  exact State.startDelay_eq (s.preset.onTicks j) .rampOn _ hon

/-- The on-times of the ramp's steps are between 1 and the period. -/
theorem State.onTicks_bounds (s : State) (h : s.cfg.WellFormed) (j : Nat) (h1 : 1 ≤ j) (hn : j < s.preset.n) :
    1 ≤ s.preset.onTicks j ∧ s.preset.onTicks j ≤ s.cfg.period :=
  (Cfg.WellFormed.presetRead s.cfg h s.pidx).onTimesFit j hn h1

/-- The state of an outcome; `s` where it holds none. -/
def stateOf (s : State) (r : Result) : State :=
  match r with
  | .next t => t
  | .fault _ => s
  | .refused _ => s

/-- The state an operation answers. -/
def effect (i : Instr) (s : State) : State := stateOf s (exec i s)

/-- The configuration check gives back the state it was given. -/
theorem underConfig_stateOf (s s' : State) : underConfig s s' = underConfig s (stateOf s (underConfig s s')) := by
  unfold underConfig
  split <;> rfl

/-- Every operation is its effect behind the configuration check. -/
theorem exec_eq_underConfig (i : Instr) (s : State) : exec i s = underConfig s (effect i s) := by
  cases i <;> exact underConfig_stateOf s _

/-- The effect of an operation whose meaning is `s'` behind the configuration check. -/
theorem effect_of_wf (i : Instr) (s s' : State) (h : exec i s = underConfig s s') (hw : s.cfg.WellFormed) :
    effect i s = s' := by
  unfold effect
  rw [h, underConfig_wf s s' hw]
  rfl

/-- Under a well-formed configuration every operation answers its effect. -/
theorem exec_wf (i : Instr) (s : State) (h : s.cfg.WellFormed) : exec i s = .next (effect i s) := by
  rw [exec_eq_underConfig, underConfig_wf s _ h]

/-- All an operation can answer as a next state. -/
theorem exec_next_iff (i : Instr) (s t : State) :
    exec i s = .next t ↔ s.cfg.WellFormed ∧ t = effect i s := by
  rw [exec_eq_underConfig, underConfig_next_iff]

/-! The effect of each operation under a well-formed configuration: the right sides of the pseudocode of the spec. -/

theorem effect_reset (s : State) (hw : s.cfg.WellFormed) :
    effect .reset s = s.clear :=
  effect_of_wf .reset s _ rfl hw

theorem effect_latchIdle (s : State) (hw : s.cfg.WellFormed) :
    effect .latchIdle s = s :=
  effect_of_wf .latchIdle s _ rfl hw

theorem effect_irqStart (s : State) (hw : s.cfg.WellFormed) :
    effect .irqStart s = s.serveEdge .rampingUp :=
  effect_of_wf .irqStart s _ rfl hw

theorem effect_irqStop (s : State) (hw : s.cfg.WellFormed) :
    effect .irqStop s = s.serveEdge .pendingOff :=
  effect_of_wf .irqStop s _ rfl hw

theorem effect_irqNop (s : State) (hw : s.cfg.WellFormed) :
    effect .irqNop s = s :=
  effect_of_wf .irqNop s _ rfl hw

theorem effect_dispIdle (s : State) (hw : s.cfg.WellFormed) :
    effect .dispIdle s = s.setPh .tc :=
  effect_of_wf .dispIdle s _ rfl hw

theorem effect_rampBegin (s : State) (hw : s.cfg.WellFormed) :
    effect .rampBegin s = (s.setLed (ledBegin s.led)).beginCycle 1 :=
  effect_of_wf .rampBegin s _ rfl hw

theorem effect_poffHeld (s : State) (hw : s.cfg.WellFormed) :
    effect .poffHeld s = s.setPh .tc :=
  effect_of_wf .poffHeld s _ rfl hw

theorem effect_poffRel (s : State) (hw : s.cfg.WellFormed) :
    effect .poffRel s = s.startDelay s.cfg.settle .poffSettle :=
  effect_of_wf .poffRel s _ rfl hw

theorem effect_tcPress (s : State) (hw : s.cfg.WellFormed) :
    effect .tcPress s = (s.setTcLatched true).startDelay s.cfg.settle .tcSettle :=
  effect_of_wf .tcPress s _ rfl hw

theorem effect_tcHeld (s : State) (hw : s.cfg.WellFormed) :
    effect .tcHeld s = s.setPh .step :=
  effect_of_wf .tcHeld s _ rfl hw

theorem effect_tcRelease (s : State) (hw : s.cfg.WellFormed) :
    effect .tcRelease s = (s.setTcLatched false).setPh .step :=
  effect_of_wf .tcRelease s _ rfl hw

theorem effect_tcWait (s : State) (hw : s.cfg.WellFormed) :
    effect .tcWait s = s.countDown :=
  effect_of_wf .tcWait s _ rfl hw

theorem effect_tcFire (s : State) (hw : s.cfg.WellFormed) :
    effect .tcFire s = (s.setPidx (s.pidx + 1#2)).setPh .step :=
  effect_of_wf .tcFire s _ rfl hw

theorem effect_stepPress (s : State) (hw : s.cfg.WellFormed) :
    effect .stepPress s = (s.setStepLatched true).startDelay s.cfg.settle .stepSettle :=
  effect_of_wf .stepPress s _ rfl hw

theorem effect_stepHeld (s : State) (hw : s.cfg.WellFormed) :
    effect .stepHeld s = s.setPh .dispatch :=
  effect_of_wf .stepHeld s _ rfl hw

theorem effect_stepRelease (s : State) (hw : s.cfg.WellFormed) :
    effect .stepRelease s = (s.setStepLatched false).setPh .dispatch :=
  effect_of_wf .stepRelease s _ rfl hw

theorem effect_stepWait (s : State) (hw : s.cfg.WellFormed) :
    effect .stepWait s = s.countDown :=
  effect_of_wf .stepWait s _ rfl hw

theorem effect_stepFireOn (s : State) (hw : s.cfg.WellFormed) :
    effect .stepFireOn s = ((s.setMs .on).drive true).setPh .dispatch :=
  effect_of_wf .stepFireOn s _ rfl hw

theorem effect_stepFireOff (s : State) (hw : s.cfg.WellFormed) :
    effect .stepFireOff s = ((s.setMs .off).drive false).setPh .dispatch :=
  effect_of_wf .stepFireOff s _ rfl hw

theorem effect_stepFireNop (s : State) (hw : s.cfg.WellFormed) :
    effect .stepFireNop s = s.setPh .dispatch :=
  effect_of_wf .stepFireNop s _ rfl hw

theorem effect_poffWait (s : State) (hw : s.cfg.WellFormed) :
    effect .poffWait s = s.countDown :=
  effect_of_wf .poffWait s _ rfl hw

theorem effect_poffFire (s : State) (hw : s.cfg.WellFormed) :
    effect .poffFire s = ((s.setMs .off).drive false).setPh .tc :=
  effect_of_wf .poffFire s _ rfl hw

theorem effect_rampOnWait (s : State) (hw : s.cfg.WellFormed) :
    effect .rampOnWait s = s.countDown :=
  effect_of_wf .rampOnWait s _ rfl hw

theorem effect_rampOnEnd (s : State) (hw : s.cfg.WellFormed) :
    effect .rampOnEnd s = s.endOnPhase (s.preset.offTicks s.cfg.period s.i) :=
  effect_of_wf .rampOnEnd s _ rfl hw

theorem effect_rampOffWait (s : State) (hw : s.cfg.WellFormed) :
    effect .rampOffWait s = s.countDown :=
  effect_of_wf .rampOffWait s _ rfl hw

theorem effect_rampOffEnd (s : State) (hw : s.cfg.WellFormed) :
    effect .rampOffEnd s = s.beginCycle (s.i + 1) :=
  effect_of_wf .rampOffEnd s _ rfl hw

/-- The loop head writes neither the configuration nor the stimulus nor the cycle number. -/
theorem State.beginCycle_frame (j : Nat) (s : State) :
    (s.beginCycle j).cfg = s.cfg ∧ (s.beginCycle j).stim = s.stim ∧ (s.beginCycle j).tick = s.tick ∧
      (s.beginCycle j).rampPrev = s.rampPrev ∧ (s.beginCycle j).pidx = s.pidx := by
  unfold State.beginCycle
  split <;> exact ⟨rfl, rfl, rfl, rfl, rfl⟩

/-- The end of an on-phase writes neither the configuration nor the stimulus nor the cycle number. -/
theorem State.endOnPhase_frame (off : Nat) (s : State) :
    (s.endOnPhase off).cfg = s.cfg ∧ (s.endOnPhase off).stim = s.stim ∧ (s.endOnPhase off).tick = s.tick ∧
      (s.endOnPhase off).rampPrev = s.rampPrev ∧ (s.endOnPhase off).pidx = s.pidx := by
  unfold State.endOnPhase
  split
  · exact State.beginCycle_frame (s.i + 1) s
  · exact ⟨rfl, rfl, rfl, rfl, rfl⟩

end Sys2Proof.Machine
end

