-- ==== Sys2Proof/Laws/Cycle.lean ====
section
/-!
SUPPORT. What a cycle, a run and a step can do, once.
-/
namespace Sys2Proof.Machine

/-- Where the configuration is ill-formed an operation answers no state. -/
theorem effect_illFormed (i : Instr) (s : State) (hw : ¬ s.cfg.WellFormed) : effect i s = s := by
  unfold effect
  rw [exec_eq_underConfig, underConfig_illFormed s _ hw]
  rfl

/-- No operation writes the configuration, the stimulus or the cycle number. -/
theorem effect_frame (i : Instr) (s : State) :
    (effect i s).cfg = s.cfg ∧ (effect i s).stim = s.stim ∧ (effect i s).tick = s.tick := by
  by_cases hw : s.cfg.WellFormed
  · cases i
    case rampBegin =>
      have h := State.beginCycle_frame 1 (s.setLed (ledBegin s.led))
      rw [effect_rampBegin s hw]
      exact ⟨h.1, h.2.1, h.2.2.1⟩
    case rampOnEnd =>
      have h := State.endOnPhase_frame (s.preset.offTicks s.cfg.period s.i) s
      rw [effect_rampOnEnd s hw]
      exact ⟨h.1, h.2.1, h.2.2.1⟩
    case rampOffEnd =>
      have h := State.beginCycle_frame (s.i + 1) s
      rw [effect_rampOffEnd s hw]
      exact ⟨h.1, h.2.1, h.2.2.1⟩
    all_goals
      rw [effect_of_wf _ s _ rfl hw]
      exact ⟨rfl, rfl, rfl⟩
  · rw [effect_illFormed i s hw]
    exact ⟨rfl, rfl, rfl⟩

/-- The state a cycle without reset ends in: the edge memory, the latch operation, the sequencer operation. -/
def cycleEffect (lv : Inputs) (s : State) : State :=
  let s1 := effect (latchOp lv s) (s.sampleRamp lv)
  effect (seqOp lv s1) s1

/-- A cycle with `rst` = 1 is `RESET`. -/
theorem cycle_reset (lv : Inputs) (s : State) (h : lv.rst = true) : cycle lv s = exec .reset s := if_pos h

/-- A cycle with `rst` = 0 under a well-formed configuration. -/
theorem cycle_run (lv : Inputs) (s : State) (h : lv.rst = false) (hw : s.cfg.WellFormed) :
    cycle lv s = .next (cycleEffect lv s) := by
  unfold cycle
  rw [if_neg (by simp [h]), exec_wf _ (s.sampleRamp lv) hw]
  exact exec_wf _ _ ((effect_frame (latchOp lv s) (s.sampleRamp lv)).1 ▸ hw)

/-- A cycle under an ill-formed configuration is refused. -/
theorem cycle_illFormed (lv : Inputs) (s : State) (hw : ¬ s.cfg.WellFormed) :
    cycle lv s = .refused .configIllFormed := by
  unfold cycle
  split
  · exact underConfig_illFormed s _ hw
  · rw [exec_eq_underConfig, underConfig_illFormed (s.sampleRamp lv) _ hw]
    rfl

/-- All a cycle can answer as a next state. -/
theorem cycle_next_iff (lv : Inputs) (s t : State) :
    cycle lv s = .next t ↔
      s.cfg.WellFormed ∧ t = if lv.rst then s.clear else cycleEffect lv s := by
  by_cases hw : s.cfg.WellFormed
  · cases hr : lv.rst
    · rw [cycle_run lv s hr hw]
      exact ⟨fun e => ⟨hw, (Host.Outcome.next.inj e).symm⟩, fun ⟨_, e⟩ => by rw [e]; rfl⟩
    · rw [cycle_reset lv s hr, exec_next_iff, effect_reset s hw]
      rfl
  · rw [cycle_illFormed lv s hw]
    exact ⟨fun e => (nomatch e), fun ⟨h, _⟩ => absurd h hw⟩

/-- The latch operation by the fields of its selector. -/
theorem latchOp_eq (lv : Inputs) (s : State) :
    latchOp lv s = selectLatch (edgeDetect s.rampPrev lv.rampN) s.ms :=
  decodeLsel_fields _ _

/-- The sequencer operation by the fields of its selector. -/
theorem seqOp_eq (lv : Inputs) (s : State) :
    seqOp lv s =
      selectSeq s.ph (decide (s.timer = 0)) (lineRead lv (phaseLine s.ph)) s.phaseLatch s.ms :=
  decodeSsel_fields _ _ _ _ _

/-- `ms1`, the motor state after the latch turn (40_cycle_step.md R72). -/
def latchMs (edge : Bool) (m : MotorState) : MotorState :=
  match edge, m with
  | true, .off => .rampingUp
  | true, .on => .pendingOff
  | _, m => m

/-- The registers after the latch turn: `ms1` and the edge memory, and nothing else. -/
def afterLatch (lv : Inputs) (s : State) : State :=
  { s with ms := latchMs (edgeDetect s.rampPrev lv.rampN) s.ms, rampPrev := lv.rampN }

/-- The latch turn gives the registers after the latch. -/
theorem latch_effect (lv : Inputs) (s : State) (hw : s.cfg.WellFormed) :
    effect (latchOp lv s) (s.sampleRamp lv) = afterLatch lv s := by
  have h : ∀ i s', exec i (s.sampleRamp lv) = underConfig (s.sampleRamp lv) s' → effect i (s.sampleRamp lv) = s' :=
    fun i s' e => effect_of_wf i (s.sampleRamp lv) s' e hw
  rw [latchOp_eq]
  unfold afterLatch
  cases edgeDetect s.rampPrev lv.rampN <;> cases hm : s.ms <;> refine (h _ _ rfl).trans ?_ <;> cases s <;> cases hm <;> rfl

/-- The end of a cycle without reset, on the registers after the latch. -/
theorem cycleEffect_eq (lv : Inputs) (s : State) (hw : s.cfg.WellFormed) :
    cycleEffect lv s = effect (seqOp lv (afterLatch lv s)) (afterLatch lv s) := by
  unfold cycleEffect
  rw [latch_effect lv s hw]

/-- A run continues where its first cycle ends. -/
theorem runCycles_cons (lv : Inputs) (rest : List Inputs) (s t : State) (h : cycle lv s = .next t) :
    runCycles (lv :: rest) s = runCycles rest t := by
  rw [runCycles, h]
  rfl

/-- A run of two lists is the run of the second from where the first ends. -/
theorem runCycles_append (l1 l2 : List Inputs) (s t : State) (h : runCycles l1 s = .next t) :
    runCycles (l1 ++ l2) s = runCycles l2 t := by
  induction l1 generalizing s with
  | nil =>
    rw [Host.Outcome.next.inj h]
    rfl
  | cons lv rest ih =>
    cases hc : cycle lv s with
    | next u =>
      rw [runCycles_cons lv rest s u hc] at h
      rw [List.cons_append, runCycles_cons lv _ s u hc]
      exact ih u h
    | fault e => nomatch e
    | refused e =>
      unfold runCycles at h
      rw [hc] at h
      nomatch h

/-- All a step can answer as a next state: a cycle under the input levels taken. -/
theorem step_next_iff (s t : State) :
    step s = .next t ↔ ∃ lv s', takeInputs s = .ok (lv, s') ∧ cycle lv s' = .next t := by
  unfold step
  cases h : takeInputs s with
  | ok p => exact ⟨fun e => ⟨p.1, p.2, rfl, e⟩, fun ⟨lv, s', hp, e⟩ => by cases hp; exact e⟩
  | error e => exact ⟨fun e => (nomatch e), fun ⟨_, _, hp, _⟩ => (nomatch hp)⟩

/-- Taking the input levels writes the stimulus and the cycle number and nothing else. -/
theorem takeInputs_frame (s s' : State) (lv : Inputs) (h : takeInputs s = .ok (lv, s')) :
    s' = { s with stim := s'.stim, tick := s.tick + 1 } := by
  unfold takeInputs at h
  split at h
  · cases h
    rfl
  · split at h
    · cases h
      rfl
    · nomatch h

end Sys2Proof.Machine
end

