-- ==== Sys2Proof/Laws/PerInstr.lean ====
section
/-!
SUPPORT. A statement for every operation, one lemma per constructor: the `match` column of its row sets examined bits only
and lies within its selector's width (30_encoding.md R55 to R58).
-/
namespace Sys2Proof.Laws.RowExamined

/-- The row's match bits are among its mask bits, and the encoder's word lies on the row. -/
abbrev Statement (i : Instr) : Prop :=
  i.row.matchBits &&& ~~~ i.row.maskBits = 0#8 ∧ i.row.Matches (encode i)

theorem reset : Statement .reset := by decide
theorem latchIdle : Statement .latchIdle := by decide
theorem irqStart : Statement .irqStart := by decide
theorem irqStop : Statement .irqStop := by decide
theorem irqNop : Statement .irqNop := by decide
theorem dispIdle : Statement .dispIdle := by decide
theorem rampBegin : Statement .rampBegin := by decide
theorem poffHeld : Statement .poffHeld := by decide
theorem poffRel : Statement .poffRel := by decide
theorem tcPress : Statement .tcPress := by decide
theorem tcHeld : Statement .tcHeld := by decide
theorem tcRelease : Statement .tcRelease := by decide
theorem tcWait : Statement .tcWait := by decide
theorem tcFire : Statement .tcFire := by decide
theorem stepPress : Statement .stepPress := by decide
theorem stepHeld : Statement .stepHeld := by decide
theorem stepRelease : Statement .stepRelease := by decide
theorem stepWait : Statement .stepWait := by decide
theorem stepFireOn : Statement .stepFireOn := by decide
theorem stepFireOff : Statement .stepFireOff := by decide
theorem stepFireNop : Statement .stepFireNop := by decide
theorem poffWait : Statement .poffWait := by decide
theorem poffFire : Statement .poffFire := by decide
theorem rampOnWait : Statement .rampOnWait := by decide
theorem rampOnEnd : Statement .rampOnEnd := by decide
theorem rampOffWait : Statement .rampOffWait := by decide
theorem rampOffEnd : Statement .rampOffEnd := by decide

end Sys2Proof.Laws.RowExamined
end

