-- ==== Sys2Proof/Tests/Slice0.lean ====
section
/-!
SUPPORT. Tests. Every expected value is the spec's: the tables of 30_encoding.md, the configurations of 00_scope.md R5 and
R6, and the vectors of 95_test_vectors.md (their ids stand in the names). At the end, one witness per statement with
hypotheses: a concrete state and operands that meet them.
-/
namespace Sys2Proof.Machine

/-! ## Configurations (00_scope.md R5, R6; 95_test_vectors.md section 2.4) -/

theorem test_ref_wellFormed : Config.ref.check = true := by decide +kernel
theorem test_tiny_wellFormed : Config.tiny.check = true := by decide
theorem test_wf1_refuses_zero_steps : ({ Config.tiny with p0 := ⟨0, 0x300, 1, 0, 0, 0, 0⟩ } : Cfg).check = false := by
  decide
theorem test_wf1_refuses_no_clock : ({ Config.tiny with clkPerMs := 0, settle := 0 } : Cfg).check = false := by decide
theorem test_wf1_refuses_no_period :
    ({ Config.tiny with period := 0, p0 := ⟨1, 0, 0, 1, 1, 1, 1⟩, p1 := ⟨1, 0, 0, 1, 1, 1, 1⟩
                        p2 := ⟨1, 0, 0, 1, 1, 1, 1⟩, p3 := ⟨1, 0, 0, 1, 1, 1, 1⟩ } : Cfg).check = false := by decide
theorem test_wf2_refuses_over_period :
    Preset.check 16 ⟨5, 0x400, 1, 1, 2, 3, 4⟩ = false ∧ Preset.onTicks ⟨5, 0x400, 1, 1, 2, 3, 4⟩ 4 = 17 := by decide
theorem test_wf2_refuses_zero_on_time :
    Preset.check 16 ⟨5, 0x080, 0, 1, 2, 3, 4⟩ = false ∧ Preset.onTicks ⟨5, 0x080, 0, 1, 2, 3, 4⟩ 1 = 0 := by decide
theorem test_wf3_refuses_flat_on_times :
    Preset.check 16 ⟨12, 0xC0, 1, 3, 5, 8, 10⟩ = false ∧
      [1, 2, 3, 4, 5].map (Preset.onTicks ⟨12, 0xC0, 1, 3, 5, 8, 10⟩) = [1, 2, 3, 4, 4] := by decide
theorem test_wf4_refuses_floor_thresholds : Preset.check 16 ⟨12, 0x140, 1, 2, 4, 7, 9⟩ = false := by decide
theorem test_wf5_refuses_wrong_settle : ({ Config.tiny with settle := 11 } : Cfg).check = false := by decide
theorem test_wf5_refuses_narrow_timer : ({ Config.tiny with wT := 3 } : Cfg).check = false := by decide
theorem test_wf5_refuses_narrow_index : ({ Config.tiny with wI := 3 } : Cfg).check = false := by decide
theorem test_reserved_count_illFormed : ¬ StimWord.WellFormed 0x00000007#32 := by decide
theorem test_reserved_preset_bits_illFormed :
    ¬ PresetWord.WellFormed 0x01000400030002000100010003000005#128 := by decide
theorem test_illFormed_configuration_refused :
    (match boot { Config.tiny with settle := 11 } with
      | .refused .configIllFormed => true
      | _ => false) = true := by decide

/-! ## Arithmetic (95_test_vectors.md section 2.4) -/

theorem test_on_times_tiny0 : [1, 2, 3, 4].map Config.tiny.p0.onTicks = [4, 7, 10, 13] := by decide
theorem test_on_times_tiny1 :
    [1, 2, 3, 4, 5, 6, 7, 8, 9, 10, 11].map Config.tiny.p1.onTicks = [2, 3, 4, 6, 7, 8, 9, 11, 12, 13, 14] := by decide
theorem test_off_times_tiny2 : [1, 2].map (Config.tiny.p2.offTicks 16) = [10, 4] := by decide
theorem test_off_time_tiny3 : Config.tiny.p3.offTicks 16 1 = 0 := by decide
theorem test_on_times_ref : Config.ref.p0.onTicks 1 = 1076 ∧ Config.ref.p0.onTicks 249 = 19924 ∧
    Config.ref.p3.onTicks 24 = 19240 := by decide
theorem test_comparators_n12 : [2, 3, 5, 7, 8, 10].map Config.tiny.p1.hits =
    [0b00000#5, 0b00010#5, 0b00110#5, 0b00110#5, 0b01110#5, 0b11110#5] := by decide

/-! ## Encodings -/

/-- The REF and TINY preset words of 30_encoding.md R53. -/
theorem test_preset_words_ref :
    Config.ref.p0.toWord = 0x0000C800960064003203E8004C0000FA#128 ∧
      PresetWord.toPreset 0x000064004B0032001903E8009800007D#128 = Config.ref.p1 ∧
      Config.ref.p2.toWord = 0x000028001E0014000A03E8017C000032#128 ∧
      PresetWord.toPreset 0x000014000F000A000503E802F8000019#128 = Config.ref.p3 := by decide
theorem test_preset_words_tiny :
    PresetWord.toPreset 0x00000400030002000100010003000005#128 = Config.tiny.p0 ∧
      Config.tiny.p1.toWord = 0x00000A0008000500030001000140000C#128 ∧
      PresetWord.toPreset 0x00000300020002000100010005800003#128 = Config.tiny.p2 ∧
      Config.tiny.p3.toWord = 0x0000020002000100010001000F000002#128 := by decide
/-- The two examples of 30_encoding.md R62. -/
theorem test_stimulus_words :
    StimWord.make 3#28 ⟨false, true, true, true⟩ = 0x00000037#32 ∧
      StimWord.make 1#28 ⟨true, true, true, true⟩ = 0x0000001F#32 := by decide
theorem test_rsel_zero_rejected : decode (.rsel 0#1) = .error .resetNotAsserted := by decide

/-! Program P4 of 95_test_vectors.md: its text assembles to its words. -/

theorem test_program_text :
    (parse ("RESET 1            ; 0x0000001F   cycle 0\nRUN 2\nSET step_n=0\nRUN 10\nSET ramp_n=0\nRUN 1\n"
        ++ "SET step_n=1\nRUN 3\n").toList).bind assemble =
      some [0x0000001F#32, 0x00000027#32, 0x000000A6#32, 0x00000012#32, 0x00000033#32] := by decide +kernel
theorem test_pseudo_statements : assemble [.press .tcN 2, .idle 3] = some [0x00000025#32, 0x00000037#32] := by decide
theorem test_run_zero_refused : assemble [.run 0] = none := by decide
theorem test_long_statement_split :
    wordsOf (2 ^ 28) startLevels = [0xFFFFFFF7#32, 0x00000017#32] := by decide +kernel

/-! One word per operation, written out from the pattern of its row (30_encoding.md R56 to R58), the unexamined bits
alternating. -/

theorem test_decode_reset : decode (.rsel 0b1#1) = .ok .reset := by decide
theorem test_decode_latchIdle : decode (.lsel 0b010#3) = .ok .latchIdle := by decide
theorem test_decode_irqStart : decode (.lsel 0b100#3) = .ok .irqStart := by decide
theorem test_decode_irqStop : decode (.lsel 0b101#3) = .ok .irqStop := by decide
theorem test_decode_irqNop : decode (.lsel 0b111#3) = .ok .irqNop := by decide
theorem test_decode_dispIdle : decode (.ssel 0b00010100#8) = .ok .dispIdle := by decide
theorem test_decode_rampBegin : decode (.ssel 0b00010110#8) = .ok .rampBegin := by decide
theorem test_decode_poffHeld : decode (.ssel 0b00010011#8) = .ok .poffHeld := by decide
theorem test_decode_poffRel : decode (.ssel 0b00011011#8) = .ok .poffRel := by decide
theorem test_decode_tcPress : decode (.ssel 0b00110001#8) = .ok .tcPress := by decide
theorem test_decode_tcHeld : decode (.ssel 0b00110101#8) = .ok .tcHeld := by decide
theorem test_decode_tcRelease : decode (.ssel 0b00111010#8) = .ok .tcRelease := by decide
theorem test_decode_tcWait : decode (.ssel 0b01001010#8) = .ok .tcWait := by decide
theorem test_decode_tcFire : decode (.ssel 0b01011010#8) = .ok .tcFire := by decide
theorem test_decode_stepPress : decode (.ssel 0b01110001#8) = .ok .stepPress := by decide
theorem test_decode_stepHeld : decode (.ssel 0b01110101#8) = .ok .stepHeld := by decide
theorem test_decode_stepRelease : decode (.ssel 0b01111010#8) = .ok .stepRelease := by decide
theorem test_decode_stepWait : decode (.ssel 0b10001010#8) = .ok .stepWait := by decide
theorem test_decode_stepFireOn : decode (.ssel 0b10011000#8) = .ok .stepFireOn := by decide
theorem test_decode_stepFireOff : decode (.ssel 0b10011001#8) = .ok .stepFireOff := by decide
theorem test_decode_stepFireNop : decode (.ssel 0b10011011#8) = .ok .stepFireNop := by decide
theorem test_decode_poffWait : decode (.ssel 0b10101010#8) = .ok .poffWait := by decide
theorem test_decode_poffFire : decode (.ssel 0b10111010#8) = .ok .poffFire := by decide
theorem test_decode_rampOnWait : decode (.ssel 0b11001010#8) = .ok .rampOnWait := by decide
theorem test_decode_rampOnEnd : decode (.ssel 0b11011010#8) = .ok .rampOnEnd := by decide
theorem test_decode_rampOffWait : decode (.ssel 0b11101010#8) = .ok .rampOffWait := by decide
theorem test_decode_rampOffEnd : decode (.ssel 0b11111010#8) = .ok .rampOffEnd := by decide

/-! ## Single-cycle vectors (95_test_vectors.md sections 2.1 to 2.6) -/

/-- A small state under TINY, all registers at their reset values. -/
def tinyState : State := State.resetWith Config.tiny

/-- A cycle selects the pair of operations and ends in the state. -/
def cycleIs (lv : Inputs) (s : State) (l q : Instr) (t : State) : Bool :=
  decide (latchOp lv s = l) &&
    (match exec l (s.sampleRamp lv) with
      | .next s1 => decide (seqOp lv s1 = q)
      | _ => false) &&
    match cycle lv s with
    | .next u => decide (u = t)
    | _ => false

theorem test_vL1_irqStart : cycleIs ⟨false, false, true, true⟩
    { tinyState with rampPrev := true, ph := .tc }
    .irqStart .tcRelease
    { tinyState with ms := .rampingUp, ph := .step } = true := by decide
theorem test_vL2_irqStop : cycleIs ⟨false, false, true, true⟩
    { tinyState with ms := .on, motor := true, led := 0b11111#5, rampPrev := true, ph := .step }
    .irqStop .stepRelease
    { tinyState with ms := .pendingOff, motor := true, led := 0b11111#5, ph := .dispatch } = true := by decide
theorem test_vL3_irqNop : cycleIs ⟨false, false, true, true⟩
    { tinyState with ms := .rampingUp, ph := .rampOff, timer := 7, i := 1, rampPrev := true }
    .irqNop .rampOffWait
    { tinyState with ms := .rampingUp, ph := .rampOff, timer := 6, i := 1 } = true := by decide
theorem test_vL4_irqNop_poffWait : cycleIs ⟨false, false, true, true⟩
    { tinyState with ms := .pendingOff, ph := .poffSettle, timer := 4, rampPrev := true }
    .irqNop .poffWait
    { tinyState with ms := .pendingOff, ph := .poffSettle, timer := 3 } = true := by decide
theorem test_vL5_latchIdle : cycleIs ⟨false, false, true, true⟩
    tinyState
    .latchIdle .dispIdle
    { tinyState with ph := .tc } = true := by decide
theorem test_vL6_rise_is_no_edge : cycleIs ⟨false, true, true, true⟩
    tinyState
    .latchIdle .dispIdle
    { tinyState with ph := .tc, rampPrev := true } = true := by decide
theorem test_vL7_edge_and_begin : cycleIs ⟨false, false, true, true⟩
    { tinyState with rampPrev := true }
    .irqStart .rampBegin
    { tinyState with ms := .rampingUp, led := 0b00011#5, motor := true, i := 1, timer := 3, ph := .rampOn } = true := by decide
theorem test_vL8_stop_at_dispatch : cycleIs ⟨false, false, true, true⟩
    { tinyState with ms := .on, motor := true, rampPrev := true }
    .irqStop .poffHeld
    { tinyState with ms := .pendingOff, motor := true, ph := .tc } = true := by decide
theorem test_vL9_edge_at_completion : cycleIs ⟨false, false, true, true⟩
    { tinyState with ms := .rampingUp, ph := .rampOff, i := 4, rampPrev := true }
    .irqNop .rampOffEnd
    { tinyState with ms := .on, motor := true, i := 5, ph := .tc } = true := by decide
theorem test_vD1_tcPress : cycleIs ⟨false, true, false, true⟩
    { tinyState with ph := .tc, rampPrev := true }
    .latchIdle .tcPress
    { tinyState with tcLatched := true, timer := 9, ph := .tcSettle, rampPrev := true } = true := by decide
theorem test_vD2_tcHeld : cycleIs ⟨false, true, false, true⟩
    { tinyState with ph := .tc, tcLatched := true, rampPrev := true }
    .latchIdle .tcHeld
    { tinyState with tcLatched := true, ph := .step, rampPrev := true } = true := by decide
theorem test_vD3_tcRelease : cycleIs ⟨false, true, true, true⟩
    { tinyState with ph := .tc, tcLatched := true, rampPrev := true }
    .latchIdle .tcRelease
    { tinyState with ph := .step, rampPrev := true } = true := by decide
theorem test_vD4_tcWait : cycleIs ⟨false, true, true, true⟩
    { tinyState with ph := .tcSettle, tcLatched := true, timer := 9, rampPrev := true }
    .latchIdle .tcWait
    { tinyState with ph := .tcSettle, tcLatched := true, timer := 8, rampPrev := true } = true := by decide
theorem test_vD5_tcFire_wraps : cycleIs ⟨false, true, true, false⟩
    { tinyState with ph := .tcSettle, tcLatched := true, pidx := 3#2, rampPrev := true }
    .latchIdle .tcFire
    { tinyState with ph := .step, tcLatched := true, pidx := 0#2, rampPrev := true } = true := by decide
theorem test_vD5_tcFire_next : cycleIs ⟨false, true, false, true⟩
    { tinyState with ph := .tcSettle, tcLatched := true, pidx := 1#2, rampPrev := true }
    .latchIdle .tcFire
    { tinyState with ph := .step, tcLatched := true, pidx := 2#2, rampPrev := true } = true := by decide
theorem test_vD6_stepPress : cycleIs ⟨false, true, true, false⟩
    { tinyState with ph := .step, ms := .rampingUp, rampPrev := true }
    .latchIdle .stepPress
    { tinyState with ms := .rampingUp, stepLatched := true, timer := 9, ph := .stepSettle, rampPrev := true } = true := by decide
theorem test_vD7_stepHeld : cycleIs ⟨false, true, true, false⟩
    { tinyState with ph := .step, stepLatched := true, rampPrev := true }
    .latchIdle .stepHeld
    { tinyState with stepLatched := true, ph := .dispatch, rampPrev := true } = true := by decide
theorem test_vD8_stepRelease : cycleIs ⟨false, true, true, true⟩
    { tinyState with ph := .step, rampPrev := true }
    .latchIdle .stepRelease
    { tinyState with ph := .dispatch, rampPrev := true } = true := by decide
theorem test_vD9_stepWait : cycleIs ⟨false, true, true, true⟩
    { tinyState with ph := .stepSettle, stepLatched := true, timer := 1, rampPrev := true }
    .latchIdle .stepWait
    { tinyState with ph := .stepSettle, stepLatched := true, rampPrev := true } = true := by decide
theorem test_vM1_dispIdle : cycleIs ⟨false, true, true, true⟩
    { tinyState with ms := .on, rampPrev := true, motor := true }
    .latchIdle .dispIdle
    { tinyState with ms := .on, ph := .tc, rampPrev := true, motor := true } = true := by decide
theorem test_vM2_poffHeld : cycleIs ⟨false, false, true, true⟩
    { tinyState with ms := .pendingOff, motor := true }
    .latchIdle .poffHeld
    { tinyState with ms := .pendingOff, motor := true, ph := .tc } = true := by decide
theorem test_vM3_poffRel : cycleIs ⟨false, true, true, true⟩
    { tinyState with ms := .pendingOff }
    .latchIdle .poffRel
    { tinyState with ms := .pendingOff, timer := 9, ph := .poffSettle, rampPrev := true } = true := by decide
theorem test_vM4_poffFire : cycleIs ⟨false, false, true, true⟩
    { tinyState with ph := .poffSettle, ms := .pendingOff, motor := true, led := 0b11111#5, rampPrev := true }
    .irqNop .poffFire
    { tinyState with ph := .tc } = true := by decide
theorem test_vM5_stepFireOn : cycleIs ⟨false, true, true, true⟩
    { tinyState with ph := .stepSettle, stepLatched := true, rampPrev := true }
    .latchIdle .stepFireOn
    { tinyState with stepLatched := true, ms := .on, motor := true, led := 0b11111#5, ph := .dispatch, rampPrev := true } = true := by decide
theorem test_vM6_stepFireOff : cycleIs ⟨false, true, true, true⟩
    { tinyState with ph := .stepSettle, ms := .on, motor := true, led := 0b00001#5, rampPrev := true }
    .latchIdle .stepFireOff
    { tinyState with ph := .dispatch, rampPrev := true } = true := by decide
theorem test_vM7_stepFireNop : cycleIs ⟨false, true, true, true⟩
    { tinyState with ph := .stepSettle, ms := .pendingOff, rampPrev := true }
    .latchIdle .stepFireNop
    { tinyState with ph := .dispatch, ms := .pendingOff, rampPrev := true } = true := by decide
theorem test_vM8_edge_beats_step_on : cycleIs ⟨false, false, true, true⟩
    { tinyState with ph := .stepSettle, rampPrev := true }
    .irqStart .stepFireNop
    { tinyState with ms := .rampingUp, ph := .dispatch } = true := by decide
theorem test_vM9_edge_beats_step_off : cycleIs ⟨false, false, true, true⟩
    { tinyState with ph := .stepSettle, ms := .on, motor := true, rampPrev := true }
    .irqStop .stepFireNop
    { tinyState with ms := .pendingOff, motor := true, ph := .dispatch } = true := by decide
theorem test_vR2_rampBegin : cycleIs ⟨false, true, true, true⟩
    { tinyState with ms := .rampingUp, pidx := 1#2, rampPrev := true }
    .latchIdle .rampBegin
    { tinyState with ms := .rampingUp, pidx := 1#2, rampPrev := true, led := 0b00001#5, motor := true, i := 1, timer := 1, ph := .rampOn } = true := by decide
theorem test_vR3_rampBegin_two_steps : cycleIs ⟨false, true, true, true⟩
    { tinyState with ms := .rampingUp, pidx := 3#2, rampPrev := true }
    .latchIdle .rampBegin
    { tinyState with ms := .rampingUp, pidx := 3#2, rampPrev := true, led := 0b00111#5, motor := true, i := 1, timer := 15, ph := .rampOn } = true := by decide
theorem test_vR4_rampOnWait : cycleIs ⟨false, true, true, true⟩
    { tinyState with ms := .rampingUp, ph := .rampOn, timer := 3, i := 1, motor := true, rampPrev := true }
    .latchIdle .rampOnWait
    { tinyState with ms := .rampingUp, ph := .rampOn, timer := 2, i := 1, motor := true, rampPrev := true } = true := by decide
theorem test_vR5_rampOnEnd : cycleIs ⟨false, true, true, true⟩
    { tinyState with ms := .rampingUp, ph := .rampOn, i := 1, motor := true, rampPrev := true }
    .latchIdle .rampOnEnd
    { tinyState with ms := .rampingUp, ph := .rampOff, timer := 11, i := 1, rampPrev := true } = true := by decide
theorem test_vR6_rampOnEnd_no_off : cycleIs ⟨false, true, true, true⟩
    { tinyState with ms := .rampingUp, ph := .rampOn, i := 1, pidx := 3#2, motor := true, led := 0b00111#5, rampPrev := true }
    .latchIdle .rampOnEnd
    { tinyState with ms := .on, ph := .tc, i := 2, pidx := 3#2, motor := true, led := 0b00111#5, rampPrev := true } = true := by decide
theorem test_vR7_rampOffWait : cycleIs ⟨false, true, true, true⟩
    { tinyState with ms := .rampingUp, ph := .rampOff, timer := 11, i := 1, rampPrev := true }
    .latchIdle .rampOffWait
    { tinyState with ms := .rampingUp, ph := .rampOff, timer := 10, i := 1, rampPrev := true } = true := by decide
theorem test_vR8_rampOffEnd : cycleIs ⟨false, true, true, true⟩
    { tinyState with ms := .rampingUp, ph := .rampOff, i := 1, led := 0b00011#5, rampPrev := true }
    .latchIdle .rampOffEnd
    { tinyState with ms := .rampingUp, ph := .rampOn, i := 2, led := 0b00111#5, motor := true, timer := 6, rampPrev := true } = true := by decide
theorem test_vR10_rampOffEnd_third_led : cycleIs ⟨false, true, true, true⟩
    { tinyState with ms := .rampingUp, ph := .rampOff, i := 7, pidx := 1#2, led := 0b00111#5, rampPrev := true }
    .latchIdle .rampOffEnd
    { tinyState with ms := .rampingUp, ph := .rampOn, i := 8, pidx := 1#2, led := 0b01111#5, motor := true, timer := 10, rampPrev := true } = true := by decide

/-- Vector V-R11: a ramp with no PWM cycle. -/
theorem test_vR11_one_step_ramp :
    cycleIs ⟨false, true, true, true⟩
      { State.resetWith { Config.tiny with p0 := ⟨1, 0x300, 1, 1, 1, 1, 1⟩ } with ms := .rampingUp, rampPrev := true }
      .latchIdle .rampBegin
      { State.resetWith { Config.tiny with p0 := ⟨1, 0x300, 1, 1, 1, 1, 1⟩ } with
        ms := .on, rampPrev := true, led := 0b00001#5, motor := true, i := 1, ph := .tc } = true := by decide

/-- Whether a result is the given next state. -/
def endsIn (r : Result) (t : State) : Bool :=
  match r with
  | .next u => decide (u = t)
  | _ => false

/-- Vector V-X1. -/
theorem test_vX1_reset :
    endsIn (cycle ⟨true, false, false, false⟩
      { tinyState with
        ph := .rampOn, ms := .rampingUp, motor := true, led := 0b00111#5, pidx := 2#2, timer := 5, i := 2
        rampPrev := true }) tinyState = true := by decide

/-! ## Steps, and the host's placing of an operation (under REF, from the reset state) -/

/-- A stimulus word of two cycles gives its levels once and leaves the word of one cycle. -/
theorem test_step_takes_stimulus :
    endsIn (step { tinyState with stim := [0x00000027#32] })
      { tinyState with stim := [0x00000017#32], tick := 1, ph := .tc, rampPrev := true } = true := by decide
theorem test_step_refuses_count_zero :
    (match step { tinyState with stim := [0x00000007#32] } with
      | .refused .stimulusCountZero => true
      | _ => false) = true := by decide
/-- Vector V-D10 of REF, placed by the host's number 0x60. -/
theorem test_placed_stepPress :
    decodeTableWord 8 0x60 = some .stepPress ∧
      endsIn (step (State.reset.withFetchWord 8 0x60))
        { State.reset with stepLatched := true, timer := 9999, ph := .stepSettle, rampPrev := true, tick := 1 } = true := by
  decide +kernel
theorem test_placed_rampBegin :
    decodeTableWord 8 0x02 = some .rampBegin ∧
      endsIn (step (State.reset.withFetchWord 8 0x02))
        { State.reset with
          ms := .rampingUp, led := 0b00001#5, motor := true, i := 1, timer := 1075, ph := .rampOn, tick := 1 } = true := by
  decide +kernel
theorem test_placed_irqStart :
    decodeTableWord 8 0x04 = some .irqStart ∧
      endsIn (step (State.reset.withFetchWord 8 0x04))
        { State.reset with
          ms := .rampingUp, led := 0b00001#5, motor := true, i := 1, timer := 1075, ph := .rampOn, tick := 1 } = true := by
  decide +kernel
theorem test_placed_reset :
    decodeTableWord 8 0x01 = some .reset ∧
      endsIn (step (State.reset.withFetchWord 8 0x01)) { State.reset with tick := 1 } = true := by decide +kernel

/-- The loader on the TINY words of 30_encoding.md R53, and on a word whose reserved field is not zero. -/
theorem test_load_tiny :
    (match loadConfig 1 16 5 4 0x00000400030002000100010003000005#128 0x00000A0008000500030001000140000C#128
        0x00000300020002000100010005800003#128 0x0000020002000100010001000F000002#128 80 192 48 32 with
      | .ok c => decide (c = Config.tiny)
      | .error _ => false) = true := by decide
theorem test_load_reserved :
    (match loadConfig 1 16 5 4 0x00000400030002000100010003000005#128 0x01000A0008000500030001000140000C#128
        0x00000300020002000100010005800003#128 0x0000020002000100010001000F000002#128 80 192 48 32 with
      | .error e => decide (e = .presetReserved 1#2)
      | .ok _ => false) = true := by decide

/-! ## Witnesses: states and operands that meet the hypotheses of the statements -/

theorem tiny_wf : tinyState.cfg.WellFormed := (Cfg.check_iff _).mp test_tiny_wellFormed

/-- A configuration whose preset 0 has one step. -/
def oneStep : Cfg := { Config.tiny with p0 := ⟨1, 0x300, 1, 1, 1, 1, 1⟩ }

theorem oneStep_wf : oneStep.WellFormed := (Cfg.check_iff _).mp (by decide)

/-- Inputs with every line inactive, with every line active, and with the ramp-start line alone active. -/
def quiet : Inputs := ⟨false, true, true, true⟩
def pressed : Inputs := ⟨false, false, false, false⟩
def rampActive : Inputs := ⟨false, false, true, true⟩

theorem exists_next (r : Result) (t : State) (h : endsIn r t = true) : r = .next t := by
  unfold endsIn at h
  split at h
  · exact congrArg _ (of_decide_eq_true h)
  · nomatch h

theorem witness_PresetWordRoundTrip :
    Config.ref.p0.Packable ∧ Preset.Packable ⟨65535, 16777215, 65535, 65535, 65535, 65535, 65535⟩ ∧
      PresetWord.WellFormed 0x00FFFFFFFFFFFFFFFFFFFFFFFFFFFFFF#128 := by decide
theorem witness_SelectionByFields :
    (tinyState.setPh .tcSettle).ph = .tcSettle ∧ (tinyState.setPh .step).ph = .step ∧ tinyState.ph = .dispatch ∧
      (tinyState.setPh .rampOff).ph = .rampOff := by decide
theorem witness_StepRunsSelectedOperations :
    tinyState.cfg.WellFormed ∧
      takeInputs { tinyState with stim := [0x1F#32] } = .ok (⟨true, true, true, true⟩, { tinyState with tick := 1 }) ∧
      takeInputs { tinyState with stim := [0x17#32] } = .ok (quiet, { tinyState with tick := 1 }) :=
  ⟨tiny_wf, rfl, rfl⟩
theorem witness_StimulusWordGivesLevels :
    (0 + 1 < 2 ^ 28 ∧ { tinyState with stim := [0x17#32] }.stim = [StimWord.make (BitVec.ofNat 28 1) quiet]) ∧
      268435454 + 1 < 2 ^ 28 ∧
      { tinyState with stim := [0xFFFFFFF7#32] }.stim = [StimWord.make (BitVec.ofNat 28 268435455) quiet] := by
  decide
theorem witness_StepIsTotal :
    tinyState.cfg.WellFormed ∧ (∀ w rest, tinyState.stim = w :: rest → w.count ≠ 0#28) ∧
      ∀ w rest, { tinyState with stim := [0x17#32] }.stim = w :: rest → w.count ≠ 0#28 :=
  ⟨tiny_wf, fun _ _ h => (nomatch h), fun w _ h => by cases h; decide⟩
theorem witness_PresetTableImmutable :
    step { tinyState with stim := [0x1F#32] } = .next { tinyState with tick := 1 } := exists_next _ _ (by decide)
/-- Four words with zero reserved fields, the record of which is well-formed with the period 16 and ill-formed with the
period 0; a word with a non-zero reserved field. -/
theorem witness_LoaderChecksConfiguration :
    (∀ p : BitVec 2, (Config.tiny.presetRead p).toWord.reserved = 0#8) ∧
      { clkPerMs := 1, settle := 10 * 1, period := 16, wT := 5, wI := 4
        p0 := Config.tiny.p0.toWord.toPreset, p1 := Config.tiny.p1.toWord.toPreset
        p2 := Config.tiny.p2.toWord.toPreset, p3 := Config.tiny.p3.toWord.toPreset
        durMs0 := 80, durMs1 := 192, durMs2 := 48, durMs3 := 32 } = Config.tiny ∧
      ¬ { Config.tiny with period := 0 }.WellFormed ∧
      PresetWord.reserved 0x01000400030002000100010003000005#128 ≠ 0#8 :=
  ⟨by decide, by decide, fun h => absurd h.periodPos (by decide), by decide⟩
/-- The loader answers the record of its arguments. -/
theorem test_loader_answers_tiny :
    (match loadConfig 1 16 5 4 Config.tiny.p0.toWord Config.tiny.p1.toWord Config.tiny.p2.toWord
        Config.tiny.p3.toWord 80 192 48 32 with
      | .ok c => decide (c = Config.tiny)
      | .error _ => false) = true := by decide
theorem witness_ResetWritesEveryRegister : tinyState.cfg.WellFormed ∧ (⟨true, false, true, false⟩ : Inputs).rst = true :=
  ⟨tiny_wf, rfl⟩
theorem witness_IrqStartRequestsRamp :
    tinyState.cfg.WellFormed ∧ rampActive.rst = false ∧ rampActive.rampN = false ∧
      { tinyState with rampPrev := true, ph := .stepSettle, stepLatched := true }.Inv ∧
      { State.resetWith oneStep with rampPrev := true }.Inv ∧ (State.resetWith oneStep).preset.n = 1 :=
  ⟨tiny_wf, rfl, rfl, by decide, by decide, by decide⟩
theorem witness_IrqStopRequestsShutdown :
    tinyState.cfg.WellFormed ∧ rampActive.rst = false ∧ rampActive.rampN = false ∧
      { tinyState with
        ms := .on, motor := true, led := 0b00001#5, rampPrev := true, ph := .stepSettle, stepLatched := true }.Inv ∧
      { tinyState with ms := .on, motor := true, led := 0b11111#5, rampPrev := true }.Inv :=
  ⟨tiny_wf, rfl, rfl, by decide, by decide⟩
theorem witness_IrqNopSwallowsEdge :
    tinyState.cfg.WellFormed ∧ rampActive.rst = false ∧ (tinyState.setMs .rampingUp).ms = .rampingUp ∧
      (tinyState.setMs .pendingOff).ms = .pendingOff := ⟨tiny_wf, by decide⟩
theorem witness_LatchIdleWithoutEdge : tinyState.cfg.WellFormed ∧ rampActive.rampN = false := ⟨tiny_wf, rfl⟩
theorem witness_operations : tinyState.cfg.WellFormed ∧ (State.resetWith oneStep).cfg.WellFormed :=
  ⟨tiny_wf, oneStep_wf⟩
theorem witness_WaitCountsDown : tinyState.cfg.WellFormed ∧ tinyState.timer = 0 ∧ (tinyState.setTimer 1).timer ≠ 0 :=
  ⟨tiny_wf, by decide⟩
theorem witness_RampBeginStartsFirstCycle :
    tinyState.cfg.WellFormed ∧ (State.resetWith oneStep).cfg.WellFormed ∧ (State.resetWith oneStep).preset.n = 1 ∧
      2 ≤ (tinyState.setPidx 3#2).preset.n ∧ (tinyState.setPidx 3#2).preset.n = 2 ∧ rampActive.rst = false ∧
      (tinyState.setRampPrev true).rampPrev = true ∧ rampActive.rampN = false ∧ tinyState.ms = .off ∧
      tinyState.ph = .dispatch := ⟨tiny_wf, oneStep_wf, by decide⟩
/-- Off-time 0 with the loop exhausted, off-time not 0, and an on-time above the period in a state no run reaches. -/
theorem witness_RampOnEndStartsOffPhase :
    tinyState.cfg.WellFormed ∧
      { tinyState with pidx := 3#2, i := 1 }.preset.onTicks 1 = tinyState.cfg.period ∧
      { tinyState with pidx := 3#2, i := 1 }.preset.n = 2 ∧
      { tinyState with i := 1 }.preset.onTicks 1 < tinyState.cfg.period ∧
      tinyState.cfg.period < { tinyState with i := 8 }.preset.onTicks 8 := ⟨tiny_wf, by decide⟩
/-- Off-time 0 with a further PWM cycle to run: an on-time equal to the period before the last step would break WF3, so
the step index is 0 here, and `OFFSET` is the period. -/
theorem witness_RampOnEnd_empty_off_then_cycle :
    let c : Cfg := { Config.tiny with p0 := ⟨2, 0, 16, 1, 1, 2, 2⟩ }
    c.WellFormed ∧ (State.resetWith c).preset.onTicks 0 = c.period ∧ 0 + 1 < (State.resetWith c).preset.n :=
  ⟨(Cfg.check_iff _).mp (by decide), by decide⟩
theorem witness_RampOffEndRunsLoopHead :
    tinyState.cfg.WellFormed ∧ { tinyState with i := 4 }.preset.n ≤ 4 + 1 ∧ 3 + 1 < { tinyState with i := 3 }.preset.n :=
  ⟨tiny_wf, by decide⟩
theorem witness_OnTimePlusOffTimeIsPeriod :
    Config.tiny.WellFormed ∧ 1 ≤ 1 ∧ 1 < (Config.tiny.presetRead 3#2).n ∧ 1 + 1 < (Config.tiny.presetRead 0#2).n ∧
      4 < (Config.tiny.presetRead 0#2).n := ⟨tiny_wf, by decide⟩
theorem witness_ComparatorsAtFifths : Config.tiny.WellFormed := tiny_wf
theorem witness_ResetStateIsSafe :
    (State.resetWith oneStep).cfg.WellFormed ∧ ¬ { oneStep with period := 0 }.WellFormed :=
  ⟨oneStep_wf, fun h => absurd h.periodPos (by decide)⟩
theorem witness_EveryStepKeepsInvariants :
    { tinyState with stim := [0x1F#32] }.Inv ∧ { tinyState with stim := [0x1F#32] }.LedsTrackRamp ∧
      { tinyState with stim := [0x1F#32] }.FitsWidths ∧
      step { tinyState with stim := [0x1F#32] } = .next { tinyState with tick := 1 } :=
  ⟨by decide, by decide, by decide, witness_PresetTableImmutable⟩
/-- A state inside a ramp that meets the invariants, at the end of PWM cycle 1, and the step from it. -/
theorem witness_EveryStepKeepsLedsOnRamp :
    let s : State := { tinyState with
      ms := .rampingUp, ph := .rampOff, i := 1, led := 0b00011#5, rampPrev := true, stim := [0x17#32] }
    s.Inv ∧ s.LedsTrackRamp ∧ s.FitsWidths ∧
      step s = .next { tinyState with
        ms := .rampingUp, ph := .rampOn, i := 2, led := 0b00111#5, motor := true, timer := 6, rampPrev := true
        tick := 1 } :=
  ⟨by decide, by decide, by decide, exists_next _ _ (by decide)⟩
theorem witness_SixTransitions :
    tinyState.Inv ∧ quiet.rst = false ∧ cycle quiet tinyState = .next { tinyState with ph := .tc, rampPrev := true } :=
  ⟨by decide, rfl, exists_next _ _ (by decide)⟩
theorem witness_RampIsNotPreempted :
    tinyState.cfg.WellFormed ∧ { tinyState with ms := .rampingUp, ph := .rampOff, i := 4, led := 0b11111#5 }.Inv ∧
      { tinyState with ms := .rampingUp, ph := .rampOff, i := 4, led := 0b11111#5 }.InRamp := ⟨tiny_wf, by decide⟩
theorem witness_IndicatorsClearOnlyTogether :
    quiet.rst = false ∧ cycle quiet tinyState = .next { tinyState with ph := .tc, rampPrev := true } :=
  ⟨rfl, exists_next _ _ (by decide)⟩
theorem witness_LinesUsedOnlyWhenPolled :
    tinyState.cfg.WellFormed ∧ quiet.rst = quiet.rst ∧ (tinyState.ph = .tc → quiet.tcN = false) ∧
      (tinyState.ph = .step → quiet.stepN = false) := ⟨tiny_wf, by decide⟩
theorem witness_FirstCycleAfterReset : tinyState.cfg.WellFormed ∧ pressed.rst = false := ⟨tiny_wf, rfl⟩
/-- All lines held, and Step held alone with the ramp-start line at either level. -/
theorem witness_LinesHeldThroughReset :
    tinyState.cfg.WellFormed ∧ exec .reset tinyState = .next tinyState ∧ NoReset (List.replicate 23 pressed) ∧
      (∀ lv ∈ List.replicate 12 pressed, lv.rampN = false) ∧ (∀ lv ∈ List.replicate 12 pressed, lv.tcN = false) ∧
      (List.replicate 12 pressed).length = tinyState.cfg.settle + 2 ∧
      (∀ r : Level, NoReset (List.replicate 13 ⟨false, r, true, false⟩) ∧
        (∀ lv ∈ List.replicate 13 (⟨false, r, true, false⟩ : Inputs), lv.rampN = r ∧ lv.stepN = false) ∧
        (List.replicate 13 (⟨false, r, true, false⟩ : Inputs)).length = tinyState.cfg.settle + 3) ∧
      (∀ lv ∈ List.replicate 23 pressed, lv.rampN = false ∧ lv.stepN = false) ∧ pressed.tcN = false ∧
      (List.replicate 23 pressed).length = 2 * tinyState.cfg.settle + 3 :=
  ⟨tiny_wf, exists_next _ _ (by decide), by decide⟩
theorem witness_OutputsCopyRegisters : (tinyState.setMs .pendingOff).out.mstate = 0b11#2 := by decide
/-- A wait of the full remaining count, and one of no cycle. -/
theorem witness_TimedPhaseWaits :
    tinyState.cfg.WellFormed ∧ (tinyState.setPh .rampOff).ph.Timed ∧ NoReset (List.replicate 9 pressed) ∧
      (List.replicate 9 pressed).length ≤ (tinyState.setTimer 9).timer ∧ ([] : List Inputs).length ≤ tinyState.timer :=
  ⟨tiny_wf, by decide⟩
theorem witness_TcPressFiresAfterSettle :
    tinyState.cfg.WellFormed ∧ (tinyState.setPh .tc).ph = .tc ∧ tinyState.tcLatched = false ∧ pressed.tcN = false ∧
      NoReset (pressed :: List.replicate 10 quiet) ∧ (List.replicate 10 quiet).length = tinyState.cfg.settle :=
  ⟨tiny_wf, by decide⟩
theorem witness_StepPressToggles :
    tinyState.cfg.WellFormed ∧ (tinyState.setPh .step).ph = .step ∧ tinyState.stepLatched = false ∧
      NoReset (⟨false, true, true, false⟩ :: List.replicate 10 quiet) ∧
      RampLineInactive (⟨false, true, true, false⟩ :: List.replicate 10 quiet) ∧
      (List.replicate 10 quiet).length = tinyState.cfg.settle ∧ (tinyState.setMs .off).ms = .off ∧
      (tinyState.setMs .on).ms = .on ∧ (tinyState.setMs .rampingUp).ms = .rampingUp := ⟨tiny_wf, by decide⟩
theorem witness_PendingOffShutsDown :
    tinyState.cfg.WellFormed ∧ tinyState.ph = .dispatch ∧ (tinyState.setMs .pendingOff).ms = .pendingOff ∧
      quiet.rampN = true ∧ NoReset (quiet :: List.replicate 10 pressed) ∧
      (List.replicate 10 pressed).length = tinyState.cfg.settle := ⟨tiny_wf, by decide⟩
theorem witness_StuckRampLineKeepsMotor :
    tinyState.cfg.WellFormed ∧ (tinyState.setMs .pendingOff).ms = .pendingOff ∧ ¬ tinyState.InRamp ∧
      tinyState.ph ≠ .poffSettle ∧ NoReset (List.replicate 20 pressed) ∧
      ∀ lv ∈ List.replicate 20 pressed, lv.rampN = false := ⟨tiny_wf, by decide⟩
/-- The first cycle of PWM cycle 1 and the last of PWM cycle 4 of TINY preset 0. -/
theorem witness_PwmWaveform :
    tinyState.cfg.WellFormed ∧ tinyState.ph = .dispatch ∧ (tinyState.setMs .rampingUp).ms = .rampingUp ∧
      1 < tinyState.preset.n ∧ 0 < tinyState.cfg.period ∧ [quiet].length = 1 + (1 - 1) * tinyState.cfg.period + 0 ∧
      4 < tinyState.preset.n ∧ 15 < tinyState.cfg.period ∧
      (List.replicate 64 quiet).length = 1 + (4 - 1) * tinyState.cfg.period + 15 ∧ NoReset (List.replicate 64 quiet) :=
  ⟨tiny_wf, by decide⟩
theorem witness_RampCompletesOnTime :
    tinyState.cfg.WellFormed ∧ (tinyState.setMs .rampingUp).ms = .rampingUp ∧
      (List.replicate 65 quiet).length = 1 + (tinyState.preset.n - 1) * tinyState.cfg.period ∧
      NoReset (List.replicate 65 quiet) ∧ (State.resetWith oneStep).cfg.WellFormed ∧
      [quiet].length = 1 + ((State.resetWith oneStep).preset.n - 1) * (State.resetWith oneStep).cfg.period :=
  ⟨tiny_wf, by decide, by decide, by decide, oneStep_wf, by decide⟩
theorem witness_IdleIterationIsThreeCycles :
    tinyState.cfg.WellFormed ∧ tinyState.ph = .dispatch ∧ tinyState.ms = .off ∧ (tinyState.setMs .on).ms = .on ∧
      NoReset [quiet, quiet, quiet] ∧ RampLineInactive [quiet, quiet, quiet] ∧ quiet.tcN = true ∧ quiet.stepN = true :=
  ⟨tiny_wf, by decide⟩
theorem witness_OneEventPerPress :
    tinyState.cfg.WellFormed ∧ NoReset (List.replicate 20 pressed) ∧ (tinyState.setTcLatched true).tcLatched = true ∧
      (tinyState.setStepLatched true).stepLatched = true ∧ tinyState.ph ≠ .tcSettle ∧ tinyState.ph ≠ .stepSettle ∧
      (∀ lv ∈ List.replicate 20 pressed, lv.tcN = false) ∧ ∀ lv ∈ List.replicate 20 pressed, lv.stepN = false :=
  ⟨tiny_wf, by decide⟩
theorem witness_EdgeToDispatchBounded :
    tinyState.cfg.WellFormed ∧ { tinyState with ph := .tc, rampPrev := true }.Inv ∧
      { tinyState with ph := .tc, rampPrev := true }.ms = .off ∧
      { tinyState with ms := .on, motor := true, led := 0b11111#5, rampPrev := true }.Inv ∧ pressed.rampN = false ∧
      NoReset (pressed :: List.replicate 21 pressed) ∧
      (List.replicate 21 pressed).length = 2 * tinyState.cfg.settle + 1 := ⟨tiny_wf, by decide, rfl, by decide, rfl, by decide, by decide⟩

end Sys2Proof.Machine
end

