-- ==== Sys2Proof/Proofs/State.lean ====
section
/-! The outputs and the registers they copy (10_state.md R20). -/
namespace Sys2Proof

/-- The code of 30_encoding.md R50 keeps the four motor states apart, since it decodes. -/
theorem MotorState.toBits_inj {m n : MotorState} : m.toBits = n.toBits ↔ m = n :=
  (Function.LeftInverse.injective MotorState.ofBits_toBits).eq_iff

/-- Bit 1 of the code of 30_encoding.md R50 marks the two states on the way between Off and On. -/
theorem MotorState.toBits_bit_one (m : MotorState) :
    m.toBits.getLsbD 1 = true ↔ m = .rampingUp ∨ m = .pendingOff := by
  cases m <;> decide

/-- Bit 0 of the code of 30_encoding.md R50 marks On and the shutdown that leads out of it. -/
theorem MotorState.toBits_bit_zero (m : MotorState) :
    m.toBits.getLsbD 0 = true ↔ m = .on ∨ m = .pendingOff := by
  cases m <;> decide

end Sys2Proof

namespace Sys2Proof.Machine

@[simp] theorem State.out_motor (s : State) : s.out.motor = s.motor := rfl
@[simp] theorem State.out_led (s : State) : s.out.led = s.led := rfl
@[simp] theorem State.out_mstate (s : State) : s.out.mstate = s.ms.toBits := rfl
@[simp] theorem State.out_pidxO (s : State) : s.out.pidxO = s.pidx := rfl

/-- Outputs are equal line by line. -/
theorem Outputs.eq_iff (o p : Outputs) :
    o = p ↔ o.motor = p.motor ∧ o.led = p.led ∧ o.mstate = p.mstate ∧ o.pidxO = p.pidxO := by
  cases o; cases p; rw [Outputs.mk.injEq]

/-- The outputs hold what the four registers hold, no more and no less. -/
theorem State.out_eq_iff (s t : State) :
    s.out = t.out ↔ s.motor = t.motor ∧ s.led = t.led ∧ s.ms = t.ms ∧ s.pidx = t.pidx := by
  simp only [Outputs.eq_iff, State.out_motor, State.out_led, State.out_mstate, State.out_pidxO,
    MotorState.toBits_inj]

/-- Settles O41: the fields of the outputs one by one, and the code of `ms` loses nothing. -/
theorem outputsCopyRegisters : Obligations.OutputsCopyRegisters := by
  refine ⟨fun s => ⟨s.out_motor, s.out_led, s.out_pidxO, ?bitOne, ?bitZero⟩, State.out_eq_iff⟩
  case bitOne => rw [State.out_mstate, MotorState.toBits_bit_one]
  case bitZero => rw [State.out_mstate, MotorState.toBits_bit_zero]

end Sys2Proof.Machine
end

