-- ==== Sys2Proof/Proofs/Decode.lean ====
section
/-!
The operation tables against the decoder (30_encoding.md R55 to R59). A selector is made of its fields, the operation
its fields select has a row the selector lies on, and no two rows of the tables share a selector.
-/
namespace Sys2Proof

/-! ## A selector is made of its fields -/

/-- All four codes of a motor state are in use, each by the state it stands for (30_encoding.md R50, R59). -/
@[simp] theorem MotorState.toBits_ofBits (b : BitVec 2) : (MotorState.ofBits b).toBits = b := by
  revert b; decide

/-- All eight codes of a phase are in use, each by the phase it stands for (30_encoding.md R51). -/
@[simp] theorem Phase.toBits_ofBits (b : BitVec 3) : (Phase.ofBits b).toBits = b := by
  revert b; decide

/-- The latch selector of its fields (30_encoding.md R55). -/
def lselOfFields (edge : Bool) (m : MotorState) : Lsel :=
  BitVec.ofBool edge ++ m.toBits

/-- The sequencer selector of its fields (30_encoding.md R55). -/
def sselOfFields (p : Phase) (tz lvl lat : Bool) (m : MotorState) : Ssel :=
  p.toBits ++ BitVec.ofBool tz ++ BitVec.ofBool lvl ++ BitVec.ofBool lat ++ m.toBits

@[simp] theorem decodeLsel_lselOfFields (edge : Bool) (m : MotorState) :
    decodeLsel (lselOfFields edge m) = selectLatch edge m :=
  decodeLsel_fields edge m

@[simp] theorem decodeSsel_sselOfFields (p : Phase) (tz lvl lat : Bool) (m : MotorState) :
    decodeSsel (sselOfFields p tz lvl lat m) = selectSeq p tz lvl lat m :=
  decodeSsel_fields p tz lvl lat m

theorem exists_lselOfFields (b : Lsel) : ∃ edge m, b = lselOfFields edge m := by
  refine ⟨b.getLsbD 2, .ofBits (b.extractLsb' 0 2), ?_⟩
  rw [lselOfFields, MotorState.toBits_ofBits]
  refine BitVec.eq_of_getLsbD_eq fun j hj => ?_
  simp only [BitVec.getLsbD_append]
  interval_cases j <;> simp

theorem exists_sselOfFields (b : Ssel) : ∃ p tz lvl lat m, b = sselOfFields p tz lvl lat m := by
  refine ⟨.ofBits (b.extractLsb' 5 3), b.getLsbD 4, b.getLsbD 3, b.getLsbD 2, .ofBits (b.extractLsb' 0 2), ?_⟩
  rw [sselOfFields, Phase.toBits_ofBits, MotorState.toBits_ofBits]
  refine BitVec.eq_of_getLsbD_eq fun j hj => ?_
  simp only [BitVec.getLsbD_append]
  interval_cases j <;> simp

/-! ## A selector lies on the row of the operation it decodes to -/

theorem selectLatch_row_matches (edge : Bool) (m : MotorState) :
    (selectLatch edge m).row.Matches (.lsel (lselOfFields edge m)) := by
  cases edge <;> cases m <;> decide

theorem selectSeq_row_matches (p : Phase) (tz lvl lat : Bool) (m : MotorState) :
    (selectSeq p tz lvl lat m).row.Matches (.ssel (sselOfFields p tz lvl lat m)) := by
  cases p with
  | dispatch =>
    cases m with
    | off | on | rampingUp => revert tz lvl lat; decide
    | pendingOff => cases lvl <;> revert tz lat <;> decide
  | tc | step =>
    cases lvl with
    | true => cases m <;> revert tz lat <;> decide
    | false => cases lat <;> cases m <;> revert tz <;> decide
  | stepSettle | tcSettle | poffSettle | rampOn | rampOff =>
    cases tz <;> cases m <;> revert lvl lat <;> decide

theorem row_matches_of_decode_eq_ok {sel : Selector} {i : Instr} (h : decode sel = .ok i) : i.row.Matches sel := by
  cases sel with
  | rsel b =>
    obtain rfl | rfl := BitVec.eq_zero_or_eq_one b
    · nomatch h
    · cases h; decide
  | lsel b =>
    cases h
    obtain ⟨edge, m, rfl⟩ := exists_lselOfFields b
    rw [decodeLsel_lselOfFields]
    exact selectLatch_row_matches edge m
  | ssel b =>
    cases h
    obtain ⟨p, tz, lvl, lat, m, rfl⟩ := exists_sselOfFields b
    rw [decodeSsel_sselOfFields]
    exact selectSeq_row_matches p tz lvl lat m

/-! ## No two rows share a selector -/

/-- Two rows of one table agree on the bits that both examine. -/
abbrev OpRow.Overlaps (r r' : OpRow) : Prop :=
  r.kind = r'.kind ∧ r.matchBits &&& r'.maskBits = r'.matchBits &&& r.maskBits

theorem OpRow.overlaps_of_matches {r r' : OpRow} {sel : Selector} (h : r.Matches sel) (h' : r'.Matches sel) :
    r.Overlaps r' := by
  obtain ⟨hkind, hbits⟩ := h
  obtain ⟨hkind', hbits'⟩ := h'
  refine ⟨hkind.trans hkind'.symm, ?_⟩
  rw [← hbits, ← hbits', BitVec.and_assoc, BitVec.and_assoc, BitVec.and_comm r.maskBits]

/-- The operations in the order of the tables (30_encoding.md R56 to R58). -/
def Instr.all : List Instr :=
  [.reset, .latchIdle, .irqStart, .irqStop, .irqNop, .dispIdle, .rampBegin, .poffHeld, .poffRel, .tcPress, .tcHeld,
    .tcRelease, .tcWait, .tcFire, .stepPress, .stepHeld, .stepRelease, .stepWait, .stepFireOn, .stepFireOff,
    .stepFireNop, .poffWait, .poffFire, .rampOnWait, .rampOnEnd, .rampOffWait, .rampOffEnd]

theorem Instr.mem_all (i : Instr) : i ∈ Instr.all := by
  cases i <;> decide

/-- Rows of different operations differ in the table or in a bit that both examine. -/
theorem Instr.all_eq_of_row_overlaps :
    ∀ i ∈ Instr.all, ∀ j ∈ Instr.all, i.row.Overlaps j.row → i = j := by
  decide

theorem Instr.eq_of_row_overlaps {i j : Instr} (h : i.row.Overlaps j.row) : i = j :=
  Instr.all_eq_of_row_overlaps i i.mem_all j j.mem_all h

theorem Instr.eq_of_row_matches {i j : Instr} {sel : Selector} (hi : i.row.Matches sel) (hj : j.row.Matches sel) :
    i = j :=
  Instr.eq_of_row_overlaps (OpRow.overlaps_of_matches hi hj)

/-! ## The decoder answers exactly the operation of the row -/

/-- The reset table has the one row, for `rst` = 1 (30_encoding.md R58). -/
theorem not_row_matches_rsel_zero (i : Instr) : ¬ i.row.Matches (.rsel 0#1) := by
  rintro ⟨hkind, hbits⟩
  cases i with
  | reset => exact absurd hbits (by decide)
  | _ => exact absurd hkind (by decide)

/-- `rsel` = 0 is the one selector without an operation (30_encoding.md R58, R59). -/
theorem exists_decode_eq_ok {sel : Selector} (h : sel ≠ .rsel 0#1) : ∃ i, decode sel = .ok i := by
  cases sel with
  | rsel b =>
    have hb : b = 1#1 := (BitVec.eq_zero_or_eq_one b).resolve_left fun hb => h (congrArg _ hb)
    exact ⟨.reset, if_pos hb⟩
  | lsel b => exact ⟨decodeLsel b, rfl⟩
  | ssel b => exact ⟨decodeSsel b, rfl⟩

theorem decode_eq_ok_iff (sel : Selector) (i : Instr) : decode sel = .ok i ↔ i.row.Matches sel := by
  refine ⟨row_matches_of_decode_eq_ok, fun hi => ?_⟩
  have hne : sel ≠ .rsel 0#1 := fun h => not_row_matches_rsel_zero i (h ▸ hi)
  obtain ⟨j, hj⟩ := exists_decode_eq_ok hne
  rw [hj, Instr.eq_of_row_matches hi (row_matches_of_decode_eq_ok hj)]

theorem existsUnique_row_matches {sel : Selector} (h : sel ≠ .rsel 0#1) : ∃! i : Instr, i.row.Matches sel := by
  obtain ⟨i, hi⟩ := exists_decode_eq_ok h
  have hrow := row_matches_of_decode_eq_ok hi
  exact ⟨i, hrow, fun _ hj => Instr.eq_of_row_matches hj hrow⟩

end Sys2Proof

namespace Sys2Proof.Machine

/-- Settles O2: the operation a selector decodes to has a matching row, and rows that share a selector are one row. -/
theorem selectorTablesPartition : Obligations.SelectorTablesPartition :=
  ⟨decode_eq_ok_iff, fun _ => existsUnique_row_matches (by nofun), fun _ => existsUnique_row_matches (by nofun),
    existsUnique_row_matches (by decide), not_row_matches_rsel_zero⟩

end Sys2Proof.Machine
end

