-- ==== Sys2Proof/Proofs/CycleStep.lean ====
section
/-! `RESET` and the cycle that runs it (40_cycle_step.md R76). -/
namespace Sys2Proof

/-- The one asserted reset selector selects `RESET`, as the row of 30_encoding.md R58 says. -/
theorem decode_rsel_one : decode (.rsel 1#1) = .ok .reset :=
  (decode_eq_ok_iff _ _).mpr (by decide)

end Sys2Proof

namespace Sys2Proof.Machine

/-- `RESET` answers from every state under a well-formed configuration: it reads no register. -/
theorem exec_reset (s : State) (hw : s.cfg.WellFormed) : exec .reset s = .next s.clear := by
  rw [exec_wf _ s hw, effect_reset s hw]

/-- Settles O13: `State.clear` holds the values of 10_state.md R21, and `rst` = 1 leaves a cycle no other operation. -/
theorem resetWritesEveryRegister : Obligations.ResetWritesEveryRegister :=
  ⟨decode_rsel_one, fun s hw => ⟨exec_reset s hw, fun lv hrst => cycle_reset lv s hrst⟩⟩

end Sys2Proof.Machine
end

