-- ==== Sys2Proof/Proofs/EdgeLatch.lean ====
section
/-!
The edge latch (41_edge_latch.md). Its turn leaves `ms1` and the sampled level and nothing else; what a cycle with an
edge does beyond it is the sequencer's turn on that state.
-/
namespace Sys2Proof

/-! ## The latch table -/

/-- The row of a latch operation read in the selector's own three bits (30_encoding.md R56). -/
theorem decodeLsel_of_row {b bits mask : Lsel} {i : Instr} (hrow : i.row = ⟨.lsel, bits.setWidth 8, mask.setWidth 8⟩)
    (h : b &&& mask = bits) : decodeLsel b = i := by
  have hmatch : i.row.Matches (.lsel b) := by
    rw [hrow]
    refine ⟨rfl, ?_⟩
    rw [← h, BitVec.setWidth_and]
    rfl
  exact Except.ok.inj ((decode_eq_ok_iff (.lsel b) i).mpr hmatch)

/-! ## What the sequencer table can select -/

/-- The sequencer table has no `RESET` row (30_encoding.md R57, R58). -/
theorem decodeSsel_ne_reset (b : Ssel) : decodeSsel b ≠ .reset := by
  intro h
  obtain ⟨hkind, -⟩ := row_matches_of_decode_eq_ok (sel := .ssel b) (congrArg Except.ok h)
  nomatch hkind

/-- The operations that can write `ms`, `motor` or `led`: `RESET`, the edge, and the transitions and PWM edges of
43_motor_state.md R110 and 44_ramp_engine.md R134 to R139. -/
def Instr.writesMotor : Instr → Bool
  | .reset | .irqStart | .irqStop | .rampBegin | .stepFireOn | .stepFireOff | .poffFire | .rampOnEnd | .rampOffEnd => true
  | _ => false

/-- With a ramp or a shutdown requested, only a `DISPATCH` that begins the ramp, the end of a shutdown settle and the
ramp itself write motor state or outputs: a Step press that fires is discarded (43_motor_state.md R119). -/
theorem selectSeq_writesMotor_eq_false {p : Phase} {m : MotorState} (tz lvl lat : Bool)
    (hm : m = .rampingUp ∨ m = .pendingOff) (hdispatch : p = .dispatch → m = .pendingOff) (hpoff : p ≠ .poffSettle)
    (hon : p ≠ .rampOn) (hoff : p ≠ .rampOff) : (selectSeq p tz lvl lat m).writesMotor = false := by
  cases p with
  | dispatch => cases hdispatch rfl; cases lvl <;> rfl
  | tc | step => cases lvl <;> cases lat <;> rfl
  | tcSettle => cases tz <;> rfl
  | stepSettle => obtain rfl | rfl := hm <;> cases tz <;> rfl
  | poffSettle => exact absurd rfl hpoff
  | rampOn => exact absurd rfl hon
  | rampOff => exact absurd rfl hoff

end Sys2Proof

namespace Sys2Proof.Machine

/-! ## Frames of the operations -/

/-- The operations that keep motor state and outputs. -/
theorem effect_motor_frame {i : Instr} (hi : i.writesMotor = false) (s : State) (hw : s.cfg.WellFormed) :
    (effect i s).ms = s.ms ∧ (effect i s).motor = s.motor ∧ (effect i s).led = s.led := by
  cases i with
  | reset | irqStart | irqStop | rampBegin | stepFireOn | stepFireOff | poffFire | rampOnEnd | rampOffEnd => cases hi
  | _ =>
    rw [effect_of_wf _ s _ rfl hw]
    exact ⟨rfl, rfl, rfl⟩

/-- No operation but `RESET` writes the edge memory: the cycle itself does (40_cycle_step.md R71). -/
theorem effect_rampPrev {i : Instr} (hi : i ≠ .reset) (s : State) (hw : s.cfg.WellFormed) :
    (effect i s).rampPrev = s.rampPrev := by
  cases i with
  | reset => exact absurd rfl hi
  | rampBegin =>
    obtain ⟨-, -, -, hprev, -⟩ := State.beginCycle_frame 1 (s.setLed (ledBegin s.led))
    rw [effect_rampBegin s hw, hprev, State.setLed_rampPrev]
  | rampOnEnd =>
    obtain ⟨-, -, -, hprev, -⟩ := State.endOnPhase_frame (s.preset.offTicks s.cfg.period s.i) s
    rw [effect_rampOnEnd s hw, hprev]
  | rampOffEnd =>
    obtain ⟨-, -, -, hprev, -⟩ := State.beginCycle_frame (s.i + 1) s
    rw [effect_rampOffEnd s hw, hprev]
  | _ =>
    refine (congrArg State.rampPrev (effect_of_wf _ s _ rfl hw)).trans ?_
    rfl

/-- LED0 is asserted where a ramp begins and no comparator clears it (44_ramp_engine.md R134, R135). -/
theorem ledBegin_bit_zero (led : BitVec 5) : (ledBegin led).getLsbD 0 = true := by
  simp [ledBegin]

/-- `RAMP_BEGIN` of a ramp of one step, which completes at once (44_ramp_engine.md R134, R135). -/
theorem effect_rampBegin_exit (s : State) (hw : s.cfg.WellFormed) (hn : s.preset.n = 1) :
    effect .rampBegin s = { s with led := ledBegin s.led, i := 1, motor := true, ms := .on, ph := .tc } := by
  rw [effect_rampBegin s hw]
  exact State.beginCycle_exit 1 (s.setLed (ledBegin s.led)) hn.le

/-- `RAMP_BEGIN` of a longer ramp starts its first PWM cycle (44_ramp_engine.md R134, R135). -/
theorem effect_rampBegin_cycle (s : State) (hw : s.cfg.WellFormed) (hn : 1 < s.preset.n) :
    effect .rampBegin s =
      { s with
        led := ledBegin s.led ||| s.preset.hits 1, i := 1, motor := true
        timer := s.preset.onTicks 1 - 1, ph := .rampOn } := by
  obtain ⟨hon, -⟩ := s.onTicks_bounds hw 1 le_rfl hn
  rw [effect_rampBegin s hw]
  exact State.beginCycle_cycle 1 (s.setLed (ledBegin s.led)) hn hon

/-! ## The registers after the latch turn -/

/-- A cycle without reset is the sequencer operation on the registers after the latch. -/
theorem cycle_eq_seq (lv : Inputs) (s : State) (hw : s.cfg.WellFormed) (hrst : lv.rst = false) :
    cycle lv s = .next (effect (seqOp lv (afterLatch lv s)) (afterLatch lv s)) := by
  rw [cycle_run lv s hrst hw, cycleEffect_eq lv s hw]

/-- A qualifying edge writes `ms1` by the motor state alone. -/
theorem afterLatch_of_edge {lv : Inputs} {s : State} (hprev : s.rampPrev = true) (hnow : lv.rampN = false) :
    afterLatch lv s = { s with ms := latchMs true s.ms, rampPrev := false } := by
  rw [afterLatch, hprev, hnow]
  rfl

/-- In RampingUp and PendingOff the latch turn only samples the line, edge or not (41_edge_latch.md R83). -/
theorem afterLatch_of_requested (lv : Inputs) {s : State} (hm : s.ms = .rampingUp ∨ s.ms = .pendingOff) :
    afterLatch lv s = { s with rampPrev := lv.rampN } := by
  obtain h | h := hm <;> rw [afterLatch, h] <;> cases edgeDetect s.rampPrev lv.rampN <;> rfl

/-- Every cycle without reset leaves the level it sampled in the edge memory (40_cycle_step.md R71). -/
theorem cycleEffect_rampPrev (lv : Inputs) (s : State) (hw : s.cfg.WellFormed) :
    (cycleEffect lv s).rampPrev = lv.rampN := by
  rw [cycleEffect_eq lv s hw]
  exact effect_rampPrev (decodeSsel_ne_reset _) (afterLatch lv s) hw

/-- An inactive-to-active change needs an inactive level before it (40_cycle_step.md R71). -/
theorem latchOp_of_rampPrev_false (lv : Inputs) {s : State} (hprev : s.rampPrev = false) :
    latchOp lv s = .latchIdle := by
  rw [latchOp_eq, hprev]
  rfl

/-! ## The cycle of an edge -/

/-- A Step press that fires with a ramp or a shutdown requested, by the edge of the same cycle too, has no effect
(43_motor_state.md R119). -/
theorem cycle_stepFire_discarded (lv : Inputs) (s : State) (hw : s.cfg.WellFormed) (hrst : lv.rst = false)
    (hph : s.ph = .stepSettle) (htimer : s.timer = 0)
    (hm : (afterLatch lv s).ms = .rampingUp ∨ (afterLatch lv s).ms = .pendingOff) :
    cycle lv s = .next { afterLatch lv s with ph := .dispatch } := by
  have hop : seqOp lv (afterLatch lv s) = .stepFireNop := by
    have hph' : (afterLatch lv s).ph = .stepSettle := hph
    have htimer' : (afterLatch lv s).timer = 0 := htimer
    rw [seqOp_eq, hph', htimer']
    obtain h | h := hm <;> rw [h] <;> rfl
  rw [cycle_eq_seq lv s hw hrst, hop, effect_stepFireNop (afterLatch lv s) hw]
  rfl

/-- With a ramp requested, by the edge of the same cycle too, `DISPATCH` begins it (41_edge_latch.md R81). -/
theorem cycle_dispatch_begins_ramp (lv : Inputs) (s : State) (hw : s.cfg.WellFormed) (hrst : lv.rst = false)
    (hph : s.ph = .dispatch) (hlatch : (afterLatch lv s).ms = .rampingUp) :
    ∃ t, cycle lv s = .next t ∧ t.led.getLsbD 0 = true ∧ t.motor = true ∧ t.i = 1 ∧
      (s.preset.n = 1 ∧ t.ph = .tc ∧ t.ms = .on ∨ s.preset.n ≠ 1 ∧ t.ph = .rampOn ∧ t.ms = .rampingUp) := by
  have hop : seqOp lv (afterLatch lv s) = .rampBegin := by
    have hph' : (afterLatch lv s).ph = .dispatch := hph
    rw [seqOp_eq, hph', hlatch]
    rfl
  have hstep : 1 ≤ s.preset.n := (Cfg.WellFormed.presetRead s.cfg hw s.pidx).hasStep
  refine ⟨_, cycle_eq_seq lv s hw hrst, ?_⟩
  rw [hop]
  by_cases hn : s.preset.n = 1
  · rw [effect_rampBegin_exit (afterLatch lv s) hw hn]
    exact ⟨ledBegin_bit_zero _, rfl, rfl, .inl ⟨hn, rfl, rfl⟩⟩
  · have hlt : 1 < s.preset.n := by omega
    rw [effect_rampBegin_cycle (afterLatch lv s) hw hlt]
    refine ⟨?ledZero, rfl, rfl, .inr ⟨hn, rfl, hlatch⟩⟩
    case ledZero => simp [ledBegin_bit_zero]

/-- An edge in Off or On, from a state that meets the invariants: but where it begins a ramp, the latch alone concerns
the motor. -/
theorem cycle_edge_motor_frame (lv : Inputs) (s : State) (hw : s.cfg.WellFormed) (hrst : lv.rst = false)
    (hinv : s.Inv) (hms : s.ms = .off ∨ s.ms = .on) (hdispatch : s.ph = .dispatch → s.ms = .on)
    (hprev : s.rampPrev = true) (hnow : lv.rampN = false) :
    ∃ t, cycle lv s = .next t ∧ t.ms = latchMs true s.ms ∧ t.motor = s.motor ∧ t.led = s.led := by
  obtain ⟨-, -, hramp, hpoff, -⟩ := hinv
  have hedge := afterLatch_of_edge hprev hnow
  have hnotRamp : ¬ s.InRamp := fun h => by
    obtain ⟨h', -⟩ := hramp h
    obtain hm | hm := hms <;> cases hm.symm.trans h'
  have hnotPoff : s.ph ≠ .poffSettle := fun h => by
    obtain hm | hm := hms <;> cases hm.symm.trans (hpoff h)
  have hrequested : latchMs true s.ms = .rampingUp ∨ latchMs true s.ms = .pendingOff := by
    obtain hm | hm := hms <;> simp [hm, latchMs]
  have hop : (seqOp lv (afterLatch lv s)).writesMotor = false := by
    rw [seqOp_eq, hedge]
    exact selectSeq_writesMotor_eq_false _ _ _ hrequested (fun h => by rw [hdispatch h]; rfl) hnotPoff
      (fun h => hnotRamp (.inl h)) (fun h => hnotRamp (.inr h))
  have hframe := effect_motor_frame hop (afterLatch lv s) hw
  refine ⟨_, cycle_eq_seq lv s hw hrst, ?_⟩
  rw [hedge] at hframe ⊢
  exact hframe

/-! ## The statements -/

/-- Settles O14: on the registers after the latch, RampingUp and otherwise the old ones, the sequencer runs
`STEP_FIRE_NOP`, `RAMP_BEGIN`, or an operation that does not write `ms`. -/
theorem irqStartRequestsRamp : Obligations.IrqStartRequestsRamp := by
  refine ⟨decodeLsel_of_row rfl (mask := 0b111#3) rfl, fun s hw => ?_, fun s lv hw hrst hprev hnow hms => ?_⟩
  · rw [exec_wf _ s hw, effect_irqStart s hw]
    rfl
  have hedge : afterLatch lv s = { s with ms := .rampingUp, rampPrev := false } := by
    rw [afterLatch_of_edge hprev hnow, hms]
    rfl
  have hlatch : (afterLatch lv s).ms = .rampingUp := by rw [hedge]
  refine ⟨fun hph htimer => ?stepFire, fun hph => ?dispatch, fun hinv => ?invariants⟩
  case stepFire => rw [cycle_stepFire_discarded lv s hw hrst hph htimer (.inl hlatch), hedge]
  case dispatch =>
    obtain ⟨t, hcycle, hled, hmotor, hi, hend⟩ := cycle_dispatch_begins_ramp lv s hw hrst hph hlatch
    refine ⟨t, hcycle, hled, hmotor, hi, ?_⟩
    obtain ⟨hn, htc, -⟩ | ⟨hn, hon, -⟩ := hend
    · rw [if_pos hn, htc]
    · rw [if_neg hn, hon]
  case invariants =>
    by_cases hph : s.ph = .dispatch
    · obtain ⟨t, hcycle, -, -, -, hend⟩ := cycle_dispatch_begins_ramp lv s hw hrst hph hlatch
      refine ⟨t, hcycle, ?_⟩
      obtain ⟨hn, -, hon⟩ | ⟨-, -, hup⟩ := hend
      · exact .inr ⟨hph, hn, hon⟩
      · exact .inl hup
    · obtain ⟨t, hcycle, hup, -, -⟩ :=
        cycle_edge_motor_frame lv s hw hrst hinv (.inl hms) (fun h => absurd h hph) hprev hnow
      rw [hms] at hup
      exact ⟨t, hcycle, .inl hup⟩

/-- Settles O15: on the registers after the latch, PendingOff and otherwise the old ones, the sequencer runs
`STEP_FIRE_NOP`, `POFF_HELD`, or an operation that concerns neither motor nor indicators. -/
theorem irqStopRequestsShutdown : Obligations.IrqStopRequestsShutdown := by
  refine ⟨decodeLsel_of_row rfl (mask := 0b111#3) rfl, fun s hw => ?_, fun s lv hw hrst hprev hnow hms => ?_⟩
  · rw [exec_wf _ s hw, effect_irqStop s hw]
    rfl
  have hedge : afterLatch lv s = { s with ms := .pendingOff, rampPrev := false } := by
    rw [afterLatch_of_edge hprev hnow, hms]
    rfl
  have hlatch : (afterLatch lv s).ms = .pendingOff := by rw [hedge]
  refine ⟨fun hph htimer => ?stepFire, fun hph => ?dispatch, fun hinv => ?invariants⟩
  case stepFire => rw [cycle_stepFire_discarded lv s hw hrst hph htimer (.inr hlatch), hedge]
  case dispatch =>
    have hheld : seqOp lv (afterLatch lv s) = .poffHeld := by
      rw [seqOp_eq, hedge, hph]
      simp [selectSeq, phaseLine, lineRead, hnow]
    rw [cycle_eq_seq lv s hw hrst, hheld, effect_poffHeld (afterLatch lv s) hw, hedge]
    rfl
  case invariants =>
    obtain ⟨t, hcycle, hoff, hout⟩ :=
      cycle_edge_motor_frame lv s hw hrst hinv (.inr hms) (fun _ => hms) hprev hnow
    rw [hms] at hoff
    exact ⟨t, hcycle, hoff, hout⟩

/-- Settles O16: the registers after the latch do not depend on the edge memory, so neither does the cycle. -/
theorem irqNopSwallowsEdge : Obligations.IrqNopSwallowsEdge := by
  refine ⟨fun b => decodeLsel_of_row rfl, fun s hw => ?_, fun s lv prev hw hrst hm => ?_⟩
  · rw [exec_wf _ s hw, effect_irqNop s hw]
  · have hsame : afterLatch lv { s with rampPrev := prev } = afterLatch lv s := by
      rw [afterLatch_of_requested lv hm, afterLatch_of_requested lv (s := { s with rampPrev := prev }) hm]
    refine ⟨_, cycle_eq_seq lv s hw hrst, ?_⟩
    rw [cycle_eq_seq lv { s with rampPrev := prev } hw hrst, hsame]

/-- Settles O17: a cycle that samples the line at 0 leaves 0 in the edge memory, and so does `RESET`. -/
theorem latchIdleWithoutEdge : Obligations.LatchIdleWithoutEdge := by
  refine ⟨fun b => decodeLsel_of_row rfl, fun s hw => ?_, fun s lv lv' hw hnow => ?_⟩
  · rw [exec_wf _ s hw, effect_latchIdle s hw]
  cases hrst : lv.rst with
  | true => exact ⟨s.clear, (cycle_reset lv s hrst).trans (exec_reset s hw), latchOp_of_rampPrev_false lv' rfl⟩
  | false =>
    exact ⟨cycleEffect lv s, cycle_run lv s hrst hw,
      latchOp_of_rampPrev_false lv' ((cycleEffect_rampPrev lv s hw).trans hnow)⟩

end Sys2Proof.Machine
end

