-- ==== Sys2Proof/Proofs/Debounce.lean ====
section
/-!
The two debounce channels (42_debounce.md): the press that starts the settle delay, the release that has none, the
operations that only move on, and the fire of the Timing-Change channel.
-/
namespace Sys2Proof

/-! ## The sequencer table -/

/-- The row of a sequencer operation read in the selector's own eight bits (30_encoding.md R57). -/
theorem decodeSsel_of_row {b bits mask : Ssel} {i : Instr} (hrow : i.row = ⟨.ssel, bits, mask⟩)
    (h : b &&& mask = bits) : decodeSsel b = i := by
  have hmatch : i.row.Matches (.ssel b) := by
    rw [hrow]
    exact ⟨rfl, h⟩
  exact Except.ok.inj ((decode_eq_ok_iff (.ssel b) i).mpr hmatch)

end Sys2Proof

namespace Sys2Proof.Machine

/-! ## The shapes of an operation's answer -/

/-- An operation whose effect is known answers it. -/
theorem exec_of_effect {i : Instr} {s t : State} (hw : s.cfg.WellFormed) (h : effect i s = t) :
    exec i s = .next t := by
  rw [exec_wf i s hw, h]

/-- The settle delay of a well-formed configuration loads `timer` with `SETTLE - 1` exactly: nothing wraps
(40_cycle_step.md R75, 44_ramp_engine.md R140). -/
theorem State.startDelay_settle (p : Phase) (s : State) (hw : s.cfg.WellFormed) :
    s.startDelay s.cfg.settle p = { s with timer := s.cfg.settle - 1, ph := p } :=
  State.startDelay_eq s.cfg.settle p s (Cfg.WellFormed.settle_pos s.cfg hw)

/-- The two-bit successor is the successor modulo 4 (42_debounce.md R95). -/
theorem toNat_pidx_succ (p : BitVec 2) : (p + 1#2).toNat = (p.toNat + 1) % 4 :=
  BitVec.toNat_add p 1#2

/-! ## The statements -/

/-- Settles O18: each press sets its latch and starts the settle delay, and neither reads the motor state. -/
theorem pressStartsSettle : Obligations.PressStartsSettle := by
  refine ⟨fun _ => decodeSsel_of_row rfl, fun _ => decodeSsel_of_row rfl, fun s hw => ⟨?tc, ?step⟩⟩
  case tc =>
    have hdelay := State.startDelay_settle .tcSettle (s.setTcLatched true) hw
    exact exec_of_effect hw ((effect_tcPress s hw).trans hdelay)
  case step =>
    have hdelay := State.startDelay_settle .stepSettle (s.setStepLatched true) hw
    exact exec_of_effect hw ((effect_stepPress s hw).trans hdelay)

/-- Settles O19: each release clears its latch without reading it, and starts no delay. -/
theorem releaseClearsLatch : Obligations.ReleaseClearsLatch :=
  ⟨fun _ => decodeSsel_of_row rfl, fun _ => decodeSsel_of_row rfl, fun s hw =>
    ⟨exec_of_effect hw (effect_tcRelease s hw), exec_of_effect hw (effect_stepRelease s hw)⟩⟩

/-- Settles O20: the effect of each of the five operations is one `State.setPh`. -/
theorem phaseOnlyOperations : Obligations.PhaseOnlyOperations := by
  refine ⟨fun _ => decodeSsel_of_row rfl, fun _ => decodeSsel_of_row rfl, fun _ => decodeSsel_of_row rfl,
    fun _ => decodeSsel_of_row rfl, fun _ => decodeSsel_of_row rfl, fun s hw =>
      ⟨?tcHeld, ?stepHeld, ?dispIdle, ?poffHeld, ?stepFireNop⟩⟩
  case tcHeld => exact exec_of_effect hw (effect_tcHeld s hw)
  case stepHeld => exact exec_of_effect hw (effect_stepHeld s hw)
  case dispIdle => exact exec_of_effect hw (effect_dispIdle s hw)
  case poffHeld => exact exec_of_effect hw (effect_poffHeld s hw)
  case stepFireNop => exact exec_of_effect hw (effect_stepFireNop s hw)

/-- Settles O22: the two-bit addition is the addition modulo 4, and only `pidx` and the phase are written. -/
theorem tcFireAdvancesPreset : Obligations.TcFireAdvancesPreset :=
  ⟨fun _ => decodeSsel_of_row rfl, fun s hw =>
    ⟨s.pidx + 1#2, toNat_pidx_succ s.pidx, exec_of_effect hw (effect_tcFire s hw)⟩⟩

end Sys2Proof.Machine
end

/-!
The motor state (43_motor_state.md): the three operations that switch the motor and the whole indicator bank together.
-/
namespace Sys2Proof.Machine

/-! ## Motor and indicators switched together -/

/-- Switching on asserts the motor line and all five indicators and leaves every other register (43_motor_state.md R117). -/
theorem State.drive_true (s : State) : s.drive true = { s with motor := true, led := 0b11111#5 } := rfl

/-- Switching off clears the motor line and all five indicators and leaves every other register (43_motor_state.md
R116, R118). -/
theorem State.drive_false (s : State) : s.drive false = { s with motor := false, led := 0b00000#5 } := rfl

/-! ## The statement -/

/-- Settles O23: each of the three effects writes `ms`, switches motor and indicators with one `State.drive`, and moves
on; none of them reads how the motor state was reached. -/
theorem firesDriveOutputs : Obligations.FiresDriveOutputs := by
  refine ⟨fun _ => decodeSsel_of_row rfl, fun _ => decodeSsel_of_row rfl, fun _ => decodeSsel_of_row rfl,
    fun s hw => ⟨exec_of_effect hw ?poffFire, exec_of_effect hw ?stepFireOn, exec_of_effect hw ?stepFireOff⟩⟩
  case poffFire =>
    rw [effect_poffFire s hw, State.drive_false]
    rfl
  case stepFireOn =>
    rw [effect_stepFireOn s hw, State.drive_true]
    rfl
  case stepFireOff =>
    rw [effect_stepFireOff s hw, State.drive_false]
    rfl

end Sys2Proof.Machine

/-!
The ramp engine (44_ramp_engine.md): the on-time and the off-time of a PWM cycle, the threshold comparators, and the
loop head as `RAMP_BEGIN` and `RAMP_OFF_END` run it.
-/
namespace Sys2Proof

/-! ## On-time and off-time -/

/-- The shift by `FRAC` = 8 bits is the floored division by 256 (44_ramp_engine.md R131). -/
theorem Preset.onTicks_eq_div (r : Preset) (i : Nat) : r.onTicks i = i * r.slope / 256 + r.offset := by
  rw [Preset.onTicks, Nat.shiftRight_eq_div_pow]
  rfl

/-- An on-time within the period leaves the rest of the period as the off-time (44_ramp_engine.md R132). -/
theorem Preset.onTicks_add_offTicks {r : Preset} {period i : Nat} (h : r.onTicks i ≤ period) :
    r.onTicks i + r.offTicks period i = period := by
  rw [Preset.offTicks, Machine.natSub_of_le period (r.onTicks i) h]
  exact Nat.add_sub_cancel' h

/-! ## The threshold comparators -/

/-- A ceiling of fifths is reached exactly when the fifths are (44_ramp_engine.md R133). -/
theorem ceilFifth_le_iff (n k i : Nat) : ceilFifth n k ≤ i ↔ n * k ≤ 5 * i := by
  rw [ceilFifth]
  omega

/-- A well-formed preset stores the threshold of LED(k+1) as WF4 says (00_scope.md R6). -/
theorem Preset.WellFormed.threshold_eq {period : Nat} {r : Preset} (h : r.WellFormed period) (k : Fin 4) :
    r.threshold k = ceilFifth r.n (k.val + 1) := by
  obtain ⟨h1, h2, h3, h4⟩ := h.thresholdsExact
  match k with
  | 0 => exact h1
  | 1 => exact h2
  | 2 => exact h3
  | 3 => exact h4

/-- LED0 has no comparator: its place among the results is 0 (44_ramp_engine.md R134). -/
theorem Preset.hits_bit_zero (r : Preset) (i : Nat) : (r.hits i).getLsbD 0 = false := by
  rw [Preset.hits, BitVec.getLsbD_append]
  rfl

/-- The result of each comparator stands at the place of the indicator it drives (44_ramp_engine.md R133). -/
theorem Preset.hits_bit_succ (r : Preset) (i : Nat) (k : Fin 4) :
    (r.hits i).getLsbD (k.val + 1) = decide (r.threshold k ≤ i) := by
  rw [← Preset.hit]
  simp only [Preset.hits, BitVec.getLsbD_append]
  fin_cases k <;> simp

end Sys2Proof

namespace Sys2Proof.Machine

/-! ## The indicator bank at the loop head -/

/-- The loop head does not touch LED0 (44_ramp_engine.md R134). -/
theorem ledStagger_bit_zero (r : Preset) (j : Nat) (led : BitVec 5) :
    (ledStagger r j led).getLsbD 0 = led.getLsbD 0 := by
  rw [ledStagger, BitVec.getLsbD_or, Preset.hits_bit_zero, Bool.or_false]

/-- The loop head asserts each indicator whose threshold `j` has reached and clears none (44_ramp_engine.md R134). -/
theorem ledStagger_bit_succ (r : Preset) (j : Nat) (led : BitVec 5) (k : Fin 4) :
    (ledStagger r j led).getLsbD (k.val + 1) = (led.getLsbD (k.val + 1) || decide (r.threshold k ≤ j)) := by
  rw [ledStagger, BitVec.getLsbD_or, Preset.hits_bit_succ]

/-- `RAMP_BEGIN` itself asserts no indicator but LED0 (44_ramp_engine.md R135). -/
theorem ledBegin_bit_succ (led : BitVec 5) (k : Fin 4) :
    (ledBegin led).getLsbD (k.val + 1) = led.getLsbD (k.val + 1) := by
  fin_cases k <;> simp [ledBegin]

/-- Before PWM cycle 1 of a well-formed ramp LED(k+1) is switched on where k + 1 fifths of the ramp are no more than
one step, and otherwise stays as it was (44_ramp_engine.md R133, R135). -/
theorem ledStagger_one_bit_succ {period : Nat} {r : Preset} (hr : r.WellFormed period) (led : BitVec 5) (k : Fin 4) :
    (ledStagger r 1 (ledBegin led)).getLsbD (k.val + 1) =
      (led.getLsbD (k.val + 1) || decide (r.n * (k.val + 1) ≤ 5)) := by
  rw [ledStagger_bit_succ, ledBegin_bit_succ, hr.threshold_eq k]
  simp only [ceilFifth_le_iff, Nat.mul_one]

/-- In a ramp of two steps or more one step is less than three fifths, so LED3 and LED4 wait for a later PWM cycle
(44_ramp_engine.md R133, R135). -/
theorem ledStagger_one_bit_succ_of_two_le {period : Nat} {r : Preset} (hr : r.WellFormed period) (hn : 2 ≤ r.n)
    (led : BitVec 5) (k : Fin 4) (hk : 3 ≤ k.val + 1) :
    (ledStagger r 1 (ledBegin led)).getLsbD (k.val + 1) = led.getLsbD (k.val + 1) := by
  have hsix : 2 * 3 ≤ r.n * (k.val + 1) := Nat.mul_le_mul hn hk
  rw [ledStagger_one_bit_succ hr, decide_eq_false (by omega), Bool.or_false]

/-! ## `DISPATCH` with a ramp requested -/

/-- A ramp requested is begun by the next `DISPATCH`, whatever the lines do (30_encoding.md R57). -/
theorem seqOp_dispatch_rampingUp (lv : Inputs) {s : State} (hph : s.ph = .dispatch) (hms : s.ms = .rampingUp) :
    seqOp lv s = .rampBegin := by
  rw [seqOp_eq, hph, hms]
  rfl

/-! ## The statements -/

/-- Settles O25: the loop head for step 1 on the bank with LED0, whose exit is taken at N = 1; the edge of the same
cycle has written RampingUp before the sequencer selects. -/
theorem rampBeginStartsFirstCycle : Obligations.RampBeginStartsFirstCycle := by
  refine ⟨fun _ => decodeSsel_of_row rfl, fun s hw => ⟨fun hn => ?exit, fun hn => ?firstCycle,
    fun lv hrst hprev hnow hms hph => ?edgeFirst⟩⟩
  case exit => exact exec_of_effect hw (effect_rampBegin_exit s hw hn)
  case firstCycle =>
    have hr : s.preset.WellFormed s.cfg.period := Cfg.WellFormed.presetRead s.cfg hw s.pidx
    have hbit := ledStagger_one_bit_succ hr s.led
    have hlater := ledStagger_one_bit_succ_of_two_le hr hn s.led
    have hexec := exec_of_effect hw (effect_rampBegin_cycle s hw hn)
    refine ⟨ledStagger s.preset 1 (ledBegin s.led), ?led0, (hbit 0).trans ?led1, (hbit 1).trans ?led2,
      hlater 2 (by decide), hlater 3 (by decide), hexec⟩
    case led0 => rw [ledStagger_bit_zero, ledBegin_bit_zero]
    case led1 =>
      have hreached : s.preset.n * 1 ≤ 5 ↔ s.preset.n ≤ 5 := by omega
      exact congrArg (s.led.getLsbD 1 || ·) (decide_eq_decide.mpr hreached)
    case led2 =>
      have hreached : s.preset.n * 2 ≤ 5 ↔ s.preset.n = 2 := by omega
      exact congrArg (s.led.getLsbD 2 || ·) (decide_eq_decide.mpr hreached)
  case edgeFirst =>
    have hedge : afterLatch lv s = { s with ms := .rampingUp, rampPrev := false } := by
      rw [afterLatch_of_edge hprev hnow, hms]
      rfl
    have hms1 : (afterLatch lv s).ms = .rampingUp := by rw [hedge]
    have hop := seqOp_dispatch_rampingUp lv (s := afterLatch lv s) hph hms1
    rw [cycle_eq_seq lv s hw hrst, hop, ← exec_wf .rampBegin (afterLatch lv s) hw, hedge]

/-- Settles O27: the one effect of `RAMP_OFF_END` is the loop head for step `i` + 1, with its exit and its next cycle. -/
theorem rampOffEndRunsLoopHead : Obligations.RampOffEndRunsLoopHead := by
  refine ⟨fun _ => decodeSsel_of_row rfl, fun s hw => ⟨fun hn => ?exit, fun hn => ?nextCycle⟩⟩
  case exit => exact exec_of_effect hw ((effect_rampOffEnd s hw).trans (State.beginCycle_exit (s.i + 1) s hn))
  case nextCycle =>
    obtain ⟨hon, -⟩ := s.onTicks_bounds hw (s.i + 1) (Nat.le_add_left 1 s.i) hn
    have hcycle := State.beginCycle_cycle (s.i + 1) s hn hon
    exact ⟨ledStagger s.preset (s.i + 1) s.led, ledStagger_bit_zero s.preset (s.i + 1) s.led,
      ledStagger_bit_succ s.preset (s.i + 1) s.led, exec_of_effect hw ((effect_rampOffEnd s hw).trans hcycle)⟩

/-- Settles O28: WF2 bounds the on-times, WF3 makes them rise, and an on-time of at least 1 leaves less than the period. -/
theorem onTimePlusOffTimeIsPeriod : Obligations.OnTimePlusOffTimeIsPeriod := by
  refine fun c p i => ⟨(c.presetRead p).onTicks_eq_div i, fun hw hi hn => ?_⟩
  have hr := Cfg.WellFormed.presetRead c hw p
  obtain ⟨hpos, hle⟩ := hr.onTimesFit i hn hi
  have hsum := Preset.onTicks_add_offTicks hle
  exact ⟨hle, hsum, by omega, fun hnext => hr.onTimesRise i (by omega) hi⟩

end Sys2Proof.Machine

/-!
Runs of cycles after reset (70_reset_and_hazards.md R183). While a timed phase counts down, the edge latch is the only
agent that writes more than `timer`; so a run from a press to its event is the latch's own run, followed by the one
operation that fires.
-/
namespace Sys2Proof.Machine

/-! ## The edge latch over a run -/

/-- The latch turns of a list of cycles, without the sequencer (40_cycle_step.md R72). -/
def latchRun (lvs : List Inputs) (s : State) : State :=
  lvs.foldl (fun s lv => afterLatch lv s) s

@[simp] theorem latchRun_nil (s : State) : latchRun [] s = s := rfl

@[simp] theorem latchRun_cons (lv : Inputs) (rest : List Inputs) (s : State) :
    latchRun (lv :: rest) s = latchRun rest (afterLatch lv s) := rfl

/-- What every latch turn leaves alone, a run of them leaves alone (41_edge_latch.md R80). -/
theorem latchRun_frame {α : Type} (f : State → α) (hf : ∀ lv s, f (afterLatch lv s) = f s) (lvs : List Inputs)
    (s : State) : f (latchRun lvs s) = f s := by
  induction lvs generalizing s with
  | nil => rfl
  | cons lv rest ih => rw [latchRun_cons, ih, hf]

/-- A write that commutes with every latch turn can as well be made after all of them. -/
theorem latchRun_comm (f : State → State) (hf : ∀ lv s, afterLatch lv (f s) = f (afterLatch lv s))
    (lvs : List Inputs) (s : State) : latchRun lvs (f s) = f (latchRun lvs s) :=
  List.foldl_hom f fun s lv => hf lv s

/-- After reset the edge memory holds 0, so that an active line is no edge (41_edge_latch.md R84). -/
theorem afterLatch_of_rampPrev_false (lv : Inputs) {s : State} (hprev : s.rampPrev = false) :
    afterLatch lv s = { s with rampPrev := lv.rampN } := by
  rw [afterLatch, hprev]
  rfl

/-- A line that stays at its level is no edge and leaves the edge memory as it is. -/
theorem afterLatch_of_steady {lv : Inputs} {s : State} (h : lv.rampN = s.rampPrev) : afterLatch lv s = s := by
  rw [afterLatch, h, edgeDetect, Bool.and_not_self]
  rfl

theorem latchRun_of_steady {lvs : List Inputs} {s : State} (h : ∀ lv ∈ lvs, lv.rampN = s.rampPrev) :
    latchRun lvs s = s := by
  induction lvs with
  | nil => rfl
  | cons lv rest ih =>
    obtain ⟨hlv, hrest⟩ := List.forall_mem_cons.mp h
    rw [latchRun_cons, afterLatch_of_steady hlv, ih hrest]

/-! ## Runs -/

theorem cycleEffect_cfg (lv : Inputs) (s : State) (hw : s.cfg.WellFormed) : (cycleEffect lv s).cfg = s.cfg := by
  obtain ⟨hcfg, -⟩ := effect_frame (seqOp lv (afterLatch lv s)) (afterLatch lv s)
  rw [cycleEffect_eq lv s hw, hcfg]
  rfl

/-- A run without reset answers a state, and keeps what each of its cycles keeps. -/
theorem exists_runCycles_of_invariant (P : State → Prop) {lvs : List Inputs}
    (hstep : ∀ lv ∈ lvs, ∀ s : State, s.cfg.WellFormed → P s → P (cycleEffect lv s)) {s : State}
    (hw : s.cfg.WellFormed) (hrst : NoReset lvs) (hP : P s) : ∃ u, runCycles lvs s = .next u ∧ P u := by
  induction lvs generalizing s with
  | nil => exact ⟨s, rfl, hP⟩
  | cons lv rest ih =>
    obtain ⟨hrstLv, hrstRest⟩ := List.forall_mem_cons.mp hrst
    obtain ⟨hstepLv, hstepRest⟩ := List.forall_mem_cons.mp hstep
    have hw' : (cycleEffect lv s).cfg.WellFormed := (cycleEffect_cfg lv s hw).symm ▸ hw
    rw [runCycles_cons lv rest s _ (cycle_run lv s hrstLv hw)]
    exact ih hstepRest hw' hrstRest (hstepLv s hw hP)

/-! ## Timed phases -/

/-- In a timed phase with `timer` not 0 the sequencer counts down, whatever the lines are (10_state.md R19). -/
theorem effect_seqOp_of_timed (lv : Inputs) {s : State} (hw : s.cfg.WellFormed) (hph : s.ph.Timed)
    (htimer : s.timer ≠ 0) : effect (seqOp lv s) s = s.setTimer (s.timer - 1) := by
  have hcount : s.countDown = s.setTimer (s.timer - 1) := s.countDown_eq htimer
  rw [seqOp_eq, decide_eq_false htimer, ← hcount]
  obtain h | h | h | h | h := hph <;> rw [h]
  · exact effect_tcWait s hw
  · exact effect_stepWait s hw
  · exact effect_poffWait s hw
  · exact effect_rampOnWait s hw
  · exact effect_rampOffWait s hw

/-- The `timer` + 1 cycles of a timed phase are latch turns and then, with `timer` at 0, the operation that ends the
phase, where the lines do not choose it. -/
theorem runCycles_of_timed {lvs : List Inputs} {s : State} {i : Instr} (hw : s.cfg.WellFormed) (hph : s.ph.Timed)
    (hrst : NoReset lvs) (hlen : lvs.length = s.timer + 1)
    (hop : ∀ lv, seqOp lv ((latchRun lvs s).setTimer 0) = i) :
    runCycles lvs s = .next (effect i ((latchRun lvs s).setTimer 0)) := by
  induction lvs generalizing s with
  | nil => cases hlen
  | cons lv rest ih =>
    obtain ⟨hrstLv, hrstRest⟩ := List.forall_mem_cons.mp hrst
    have hcycle := cycle_eq_seq lv s hw hrstLv
    by_cases htimer : s.timer = 0
    · obtain rfl : rest = [] := List.eq_nil_of_length_eq_zero (by simpa [htimer] using hlen)
      have hzero : (latchRun [lv] s).setTimer 0 = afterLatch lv s := by
        rw [← htimer]
        rfl
      rw [runCycles_cons lv [] s _ hcycle, hzero, ← hop lv, hzero]
      rfl
    · have hwait : effect (seqOp lv (afterLatch lv s)) (afterLatch lv s) = (afterLatch lv s).setTimer (s.timer - 1) :=
        effect_seqOp_of_timed lv hw hph htimer
      have hlatch : latchRun rest ((afterLatch lv s).setTimer (s.timer - 1)) =
          (latchRun (lv :: rest) s).setTimer (s.timer - 1) :=
        latchRun_comm (State.setTimer (s.timer - 1)) (fun _ _ => rfl) rest (afterLatch lv s)
      have hlen' : rest.length = s.timer - 1 + 1 := by
        rw [List.length_cons] at hlen
        omega
      have hrest := ih (s := (afterLatch lv s).setTimer (s.timer - 1)) hw hph hrstRest hlen'
        (by rw [hlatch]; exact hop)
      rw [runCycles_cons lv rest s _ (hcycle.trans (congrArg _ hwait)), hrest, hlatch]
      rfl

/-! ## A press and its event -/

/-- The registers after a Timing-Change press (42_debounce.md R91). -/
def State.pressTc (s : State) : State :=
  { s with tcLatched := true, timer := s.cfg.settle - 1, ph := .tcSettle }

/-- The registers after a Step press (42_debounce.md R96). -/
def State.pressStep (s : State) : State :=
  { s with stepLatched := true, timer := s.cfg.settle - 1, ph := .stepSettle }

theorem effect_tcPress_eq (s : State) (hw : s.cfg.WellFormed) : effect .tcPress s = s.pressTc := by
  rw [effect_tcPress s hw]
  exact State.startDelay_settle .tcSettle (s.setTcLatched true) hw

theorem effect_stepPress_eq (s : State) (hw : s.cfg.WellFormed) : effect .stepPress s = s.pressStep := by
  rw [effect_stepPress s hw]
  exact State.startDelay_settle .stepSettle (s.setStepLatched true) hw

/-- A poll of the Timing-Change line that finds it active and the channel unlatched is a press (42_debounce.md R91). -/
theorem cycle_tcPress {lv : Inputs} {s : State} (hw : s.cfg.WellFormed) (hrst : lv.rst = false) (hph : s.ph = .tc)
    (hlat : s.tcLatched = false) (hline : lv.tcN = false) : cycle lv s = .next (afterLatch lv s).pressTc := by
  have hop : seqOp lv (afterLatch lv s) = .tcPress := by
    simp [seqOp_eq, afterLatch, State.phaseLatch, phaseLine, lineRead, selectSeq, hph, hlat, hline]
  rw [cycle_eq_seq lv s hw hrst, hop, effect_tcPress_eq (afterLatch lv s) hw]

/-- A poll of the Step line that finds it active and the channel unlatched is a press (42_debounce.md R96). -/
theorem cycle_stepPress {lv : Inputs} {s : State} (hw : s.cfg.WellFormed) (hrst : lv.rst = false) (hph : s.ph = .step)
    (hlat : s.stepLatched = false) (hline : lv.stepN = false) : cycle lv s = .next (afterLatch lv s).pressStep := by
  have hop : seqOp lv (afterLatch lv s) = .stepPress := by
    simp [seqOp_eq, afterLatch, State.phaseLatch, phaseLine, lineRead, selectSeq, hph, hlat, hline]
  rw [cycle_eq_seq lv s hw hrst, hop, effect_stepPress_eq (afterLatch lv s) hw]

/-- A poll of the Timing-Change line that finds it inactive (42_debounce.md R93). -/
theorem cycle_tcRelease {lv : Inputs} {s : State} (hw : s.cfg.WellFormed) (hrst : lv.rst = false) (hph : s.ph = .tc)
    (hline : lv.tcN = true) : cycle lv s = .next { afterLatch lv s with tcLatched := false, ph := .step } := by
  have hop : seqOp lv (afterLatch lv s) = .tcRelease := by
    simp [seqOp_eq, afterLatch, phaseLine, lineRead, selectSeq, hph, hline]
  rw [cycle_eq_seq lv s hw hrst, hop, effect_tcRelease (afterLatch lv s) hw]
  rfl

/-- A Timing-Change press advances the preset `SETTLE` cycles later, whatever the lines do in between
(42_debounce.md R94, R95, R101). -/
theorem runCycles_tcPress {lv : Inputs} {rest : List Inputs} {s : State} (hw : s.cfg.WellFormed) (hph : s.ph = .tc)
    (hlat : s.tcLatched = false) (hline : lv.tcN = false) (hrst : NoReset (lv :: rest))
    (hlen : rest.length = s.cfg.settle) :
    runCycles (lv :: rest) s = .next { latchRun (lv :: rest) s with
      tcLatched := true, pidx := s.pidx + 1#2, ph := .step, timer := 0 } := by
  obtain ⟨hrstLv, hrstRest⟩ := List.forall_mem_cons.mp hrst
  have hlatch : latchRun rest (afterLatch lv s).pressTc = (latchRun (lv :: rest) s).pressTc :=
    latchRun_comm State.pressTc (fun _ _ => rfl) rest (afterLatch lv s)
  have hcfg : (latchRun (lv :: rest) s).cfg = s.cfg := latchRun_frame State.cfg (fun _ _ => rfl) _ s
  have hpidx : (latchRun (lv :: rest) s).pidx = s.pidx := latchRun_frame State.pidx (fun _ _ => rfl) _ s
  have hfire := runCycles_of_timed (s := (afterLatch lv s).pressTc) (i := .tcFire) hw (.inl rfl) hrstRest
    (hlen.trans (Nat.sub_add_cancel (Cfg.WellFormed.settle_pos s.cfg hw)).symm)
    (fun lv' => by rw [hlatch, seqOp_eq]; rfl)
  rw [runCycles_cons lv rest s _ (cycle_tcPress hw hrstLv hph hlat hline), hfire, hlatch,
    effect_tcFire _ (hcfg.symm ▸ hw), ← hpidx]
  rfl

/-- A Step press that meets no edge in Off switches the motor on `SETTLE` cycles later, with all indicators
(43_motor_state.md R117). -/
theorem runCycles_stepPress_off {lv : Inputs} {rest : List Inputs} {s : State} (hw : s.cfg.WellFormed)
    (hph : s.ph = .step) (hlat : s.stepLatched = false) (hline : lv.stepN = false) (hrst : NoReset (lv :: rest))
    (hlen : rest.length = s.cfg.settle) (hoff : (latchRun (lv :: rest) s).ms = .off) :
    runCycles (lv :: rest) s = .next { latchRun (lv :: rest) s with
      stepLatched := true, ms := .on, motor := true, led := 0b11111#5, ph := .dispatch, timer := 0 } := by
  obtain ⟨hrstLv, hrstRest⟩ := List.forall_mem_cons.mp hrst
  have hlatch : latchRun rest (afterLatch lv s).pressStep = (latchRun (lv :: rest) s).pressStep :=
    latchRun_comm State.pressStep (fun _ _ => rfl) rest (afterLatch lv s)
  have hcfg : (latchRun (lv :: rest) s).cfg = s.cfg := latchRun_frame State.cfg (fun _ _ => rfl) _ s
  have hms : ((latchRun (lv :: rest) s).pressStep.setTimer 0).ms = .off := hoff
  have hfire := runCycles_of_timed (s := (afterLatch lv s).pressStep) (i := .stepFireOn) hw (.inr (.inl rfl)) hrstRest
    (hlen.trans (Nat.sub_add_cancel (Cfg.WellFormed.settle_pos s.cfg hw)).symm)
    (fun lv' => by rw [hlatch, seqOp_eq, hms]; rfl)
  rw [runCycles_cons lv rest s _ (cycle_stepPress hw hrstLv hph hlat hline), hfire, hlatch,
    effect_stepFireOn _ (hcfg.symm ▸ hw), State.drive_true]
  rfl

/-- With the ramp-start line at one level, a Step press in Off switches the motor on and keeps the preset. -/
theorem exists_runCycles_stepPress_steady {lvs : List Inputs} {s : State} (hw : s.cfg.WellFormed) (hph : s.ph = .step)
    (hms : s.ms = .off) (hlat : s.stepLatched = false) (hrst : NoReset lvs)
    (hlines : ∀ lv ∈ lvs, lv.rampN = s.rampPrev ∧ lv.stepN = false) (hlen : lvs.length = s.cfg.settle + 1) :
    ∃ u, runCycles lvs s = .next u ∧ u.ms = .on ∧ u.motor = true ∧ u.led = 0b11111#5 ∧ u.pidx = s.pidx := by
  have hsteady : latchRun lvs s = s := latchRun_of_steady fun lv hlv => (hlines lv hlv).left
  cases lvs with
  | nil => cases hlen
  | cons lv rest =>
    obtain ⟨-, hline⟩ := hlines lv List.mem_cons_self
    have hrun := runCycles_stepPress_off hw hph hlat hline hrst (Nat.succ.inj hlen) (hsteady.symm ▸ hms)
    rw [hsteady] at hrun
    exact ⟨_, hrun, rfl, rfl, rfl, rfl⟩

/-! ## The runs from reset -/

/-- The registers after the first cycle from reset: `DISPATCH` with nothing requested has moved on, and the edge memory
has taken the level of the line (70_reset_and_hazards.md R180). -/
def State.firstPoll (ramp : Level) (s : State) : State :=
  { s.clear with ph := .tc, rampPrev := ramp }

/-- The edge memory is 0 at reset, so the first cycle runs `DISP_IDLE` in Off whatever the lines are
(70_reset_and_hazards.md R180). -/
theorem cycle_clear (lv : Inputs) (s : State) (hw : s.cfg.WellFormed) (hrst : lv.rst = false) :
    cycle lv s.clear = .next (s.firstPoll lv.rampN) := by
  have hlatch : afterLatch lv s.clear = { s.clear with rampPrev := lv.rampN } := afterLatch_of_rampPrev_false lv rfl
  have hop : seqOp lv (afterLatch lv s.clear) = .dispIdle := by
    rw [hlatch, seqOp_eq]
    rfl
  rw [cycle_eq_seq lv s.clear hw hrst, hop, effect_dispIdle (afterLatch lv s.clear) hw, hlatch]
  rfl

/-- While the ramp-start line is held active from reset on, no cycle finds an inactive level in the edge memory. -/
theorem exists_runCycles_clear_latchIdle (s : State) {lvs : List Inputs} (hw : s.cfg.WellFormed) (hrst : NoReset lvs)
    (hramp : ∀ lv ∈ lvs, lv.rampN = false) :
    ∃ u, runCycles lvs s.clear = .next u ∧ ∀ lv, latchOp lv u = .latchIdle := by
  obtain ⟨u, hrun, hprev⟩ := exists_runCycles_of_invariant (fun u => u.rampPrev = false) (s := s.clear)
    (fun lv hlv u hw _ => (cycleEffect_rampPrev lv u hw).trans (hramp lv hlv)) hw hrst rfl
  exact ⟨u, hrun, fun lv => latchOp_of_rampPrev_false lv hprev⟩

/-- The Timing-Change button held from reset on is a press in the second cycle. -/
theorem exists_runCycles_clear_tcPress (s : State) {lvs : List Inputs} (hw : s.cfg.WellFormed) (hrst : NoReset lvs)
    (htc : ∀ lv ∈ lvs, lv.tcN = false) (hlen : lvs.length = s.cfg.settle + 2) :
    ∃ u, runCycles lvs s.clear = .next u ∧ u.pidx = 1#2 ∧ u.ph = .step := by
  match lvs with
  | [] | [_] => simp at hlen
  | first :: second :: rest =>
    obtain ⟨hrstFirst, hrstRest⟩ := List.forall_mem_cons.mp hrst
    have hline : second.tcN = false := htc second (by simp)
    rw [runCycles_cons first _ _ _ (cycle_clear first s hw hrstFirst),
      runCycles_tcPress (s := s.firstPoll first.rampN) hw rfl rfl hline hrstRest (Nat.succ.inj (Nat.succ.inj hlen))]
    exact ⟨_, rfl, rfl, rfl⟩

/-- The Step button held from the first Timing-Change poll on, which finds its own button released: the next cycle
accepts the press. -/
theorem exists_runCycles_firstPoll_tcReleased (s : State) {lv : Inputs} {rest : List Inputs} (hw : s.cfg.WellFormed)
    (hrst : NoReset (lv :: rest)) (ramp : Level) (hlines : ∀ l ∈ lv :: rest, l.rampN = ramp ∧ l.stepN = false)
    (htc : lv.tcN = true) (hlen : rest.length = s.cfg.settle + 1) :
    ∃ u, runCycles (lv :: rest) (s.firstPoll ramp) = .next u ∧
      u.ms = .on ∧ u.motor = true ∧ u.led = 0b11111#5 ∧ u.pidx = 0#2 := by
  obtain ⟨hrstLv, hrstRest⟩ := List.forall_mem_cons.mp hrst
  obtain ⟨⟨hrampLv, -⟩, hlinesRest⟩ := List.forall_mem_cons.mp hlines
  have hrelease := cycle_tcRelease (s := s.firstPoll ramp) hw hrstLv rfl htc
  rw [afterLatch_of_steady hrampLv] at hrelease
  rw [runCycles_cons lv rest _ _ hrelease]
  exact exists_runCycles_stepPress_steady hw rfl rfl rfl hrstRest hlinesRest hlen

/-- Both buttons held from the first Timing-Change poll on: the settle delay of the Timing-Change press comes first, and
the Step press is accepted in the cycle after its event. -/
theorem exists_runCycles_firstPoll_tcHeld (s : State) {lv : Inputs} {rest : List Inputs} (hw : s.cfg.WellFormed)
    (hrst : NoReset (lv :: rest)) (ramp : Level) (hlines : ∀ l ∈ lv :: rest, l.rampN = ramp ∧ l.stepN = false)
    (htc : lv.tcN = false) (hlen : rest.length = s.cfg.settle + (s.cfg.settle + 1)) :
    ∃ u, runCycles (lv :: rest) (s.firstPoll ramp) = .next u ∧
      u.ms = .on ∧ u.motor = true ∧ u.led = 0b11111#5 ∧ u.pidx = 1#2 := by
  obtain ⟨tcWait, stepRun, rfl, htcLen⟩ : ∃ l1 l2, rest = l1 ++ l2 ∧ l1.length = s.cfg.settle :=
    ⟨rest.take s.cfg.settle, rest.drop s.cfg.settle, (List.take_append_drop _ _).symm,
      List.length_take_of_le (by omega)⟩
  rw [← List.cons_append] at hrst hlines ⊢
  obtain ⟨hrstTc, hrstStep⟩ := List.forall_mem_append.mp hrst
  obtain ⟨hlinesTc, hlinesStep⟩ := List.forall_mem_append.mp hlines
  have htcRun := runCycles_tcPress (s := s.firstPoll ramp) hw rfl rfl htc hrstTc htcLen
  rw [latchRun_of_steady (s := s.firstPoll ramp) fun l hl => (hlinesTc l hl).left] at htcRun
  rw [runCycles_append _ stepRun _ _ htcRun]
  refine exists_runCycles_stepPress_steady hw rfl rfl rfl hrstStep hlinesStep ?_
  rw [List.length_append, htcLen] at hlen
  exact Nat.add_left_cancel hlen

/-! ## The statement -/

/-- Settles O40: the edge memory stays 0 under an active line; the second cycle is the first Timing-Change poll, and the
Step poll follows it, or the settle delay of the Timing-Change press. -/
theorem linesHeldThroughReset : Obligations.LinesHeldThroughReset := by
  intro s t lvs hw hreset hrst
  obtain rfl : s.clear = t := Host.Outcome.next.inj ((exec_reset s hw).symm.trans hreset)
  refine ⟨exists_runCycles_clear_latchIdle s hw hrst, exists_runCycles_clear_tcPress s hw hrst, ?stepHeld⟩
  case stepHeld =>
    rintro ramp first second rest rfl hlines
    obtain ⟨hrstFirst, hrstRest⟩ := List.forall_mem_cons.mp hrst
    obtain ⟨⟨hrampFirst, -⟩, hlinesRest⟩ := List.forall_mem_cons.mp hlines
    have hfirst := cycle_clear first s hw hrstFirst
    rw [hrampFirst] at hfirst
    rw [runCycles_cons first _ _ _ hfirst]
    simp only [List.length_cons]
    exact ⟨fun htc hlen => exists_runCycles_firstPoll_tcReleased s hw hrstRest ramp hlinesRest htc (by omega),
      fun htc hlen => exists_runCycles_firstPoll_tcHeld s hw hrstRest ramp hlinesRest htc (by omega)⟩

end Sys2Proof.Machine

/-!
The sequencer's turn (40_cycle_step.md R72). Selector tables and effects together, said once: for each operation, the
phase, motor state, line and latch that select it and the state it leaves. What every cycle keeps, and where it can
lead, is read off this one case split.
-/
namespace Sys2Proof.Machine

/-! ## What a turn can do -/

/-- The two ways out of the loop head for step `j` (44_ramp_engine.md R134). -/
inductive LoopHead (j : Nat) (s : State) : State → Prop
  | exit (hn : s.preset.n ≤ j) : LoopHead j s { s with i := j, motor := true, ms := .on, ph := .tc }
  | pwm (hn : j < s.preset.n) : LoopHead j s { s with
      i := j, led := s.led ||| s.preset.hits j, motor := true, timer := s.preset.onTicks j - 1, ph := .rampOn }

/-- The sequencer's turn on the registers `u` after the latch: what selects each operation (30_encoding.md R57) and the
state it leaves. -/
inductive SeqTurn (lv : Inputs) (u : State) : State → Prop
  | dispIdle (hph : u.ph = .dispatch) (hms : u.ms = .off ∨ u.ms = .on) : SeqTurn lv u { u with ph := .tc }
  | rampBegin {t : State} (hph : u.ph = .dispatch) (hms : u.ms = .rampingUp)
      (hloop : LoopHead 1 { u with led := ledBegin u.led } t) : SeqTurn lv u t
  | poffHeld (hph : u.ph = .dispatch) (hms : u.ms = .pendingOff) (hline : lv.rampN = false) :
      SeqTurn lv u { u with ph := .tc }
  | poffRel (hph : u.ph = .dispatch) (hms : u.ms = .pendingOff) (hline : lv.rampN = true) :
      SeqTurn lv u { u with timer := u.cfg.settle - 1, ph := .poffSettle }
  | tcPress (hph : u.ph = .tc) (hline : lv.tcN = false) (hlat : u.tcLatched = false) : SeqTurn lv u u.pressTc
  | tcHeld (hph : u.ph = .tc) (hline : lv.tcN = false) (hlat : u.tcLatched = true) :
      SeqTurn lv u { u with ph := .step }
  | tcRelease (hph : u.ph = .tc) (hline : lv.tcN = true) : SeqTurn lv u { u with tcLatched := false, ph := .step }
  | tcFire (hph : u.ph = .tcSettle) (htimer : u.timer = 0) :
      SeqTurn lv u { u with pidx := u.pidx + 1#2, ph := .step }
  | stepPress (hph : u.ph = .step) (hline : lv.stepN = false) (hlat : u.stepLatched = false) :
      SeqTurn lv u u.pressStep
  | stepHeld (hph : u.ph = .step) (hline : lv.stepN = false) (hlat : u.stepLatched = true) :
      SeqTurn lv u { u with ph := .dispatch }
  | stepRelease (hph : u.ph = .step) (hline : lv.stepN = true) :
      SeqTurn lv u { u with stepLatched := false, ph := .dispatch }
  | stepFireOn (hph : u.ph = .stepSettle) (htimer : u.timer = 0) (hms : u.ms = .off) :
      SeqTurn lv u { u with ms := .on, motor := true, led := ledAll, ph := .dispatch }
  | stepFireOff (hph : u.ph = .stepSettle) (htimer : u.timer = 0) (hms : u.ms = .on) :
      SeqTurn lv u { u with ms := .off, motor := false, led := ledNone, ph := .dispatch }
  | stepFireNop (hph : u.ph = .stepSettle) (htimer : u.timer = 0) (hms : u.ms = .rampingUp ∨ u.ms = .pendingOff) :
      SeqTurn lv u { u with ph := .dispatch }
  | poffFire (hph : u.ph = .poffSettle) (htimer : u.timer = 0) :
      SeqTurn lv u { u with ms := .off, motor := false, led := ledNone, ph := .tc }
  | wait (hph : u.ph.Timed) (htimer : u.timer ≠ 0) : SeqTurn lv u { u with timer := u.timer - 1 }
  | offPhase (hph : u.ph = .rampOn) (htimer : u.timer = 0) (hoff : u.preset.offTicks u.cfg.period u.i ≠ 0) :
      SeqTurn lv u { u with
        motor := false, timer := u.preset.offTicks u.cfg.period u.i - 1, ph := .rampOff }
  | skipOffPhase {t : State} (hph : u.ph = .rampOn) (htimer : u.timer = 0)
      (hoff : u.preset.offTicks u.cfg.period u.i = 0) (hloop : LoopHead (u.i + 1) u t) : SeqTurn lv u t
  | rampOffEnd {t : State} (hph : u.ph = .rampOff) (htimer : u.timer = 0) (hloop : LoopHead (u.i + 1) u t) :
      SeqTurn lv u t

/-! ## Every turn is one of these -/

theorem State.beginCycle_loopHead {j : Nat} {s : State} (hw : s.cfg.WellFormed) (hj : 1 ≤ j) :
    LoopHead j s (s.beginCycle j) := by
  rcases Nat.lt_or_ge j s.preset.n with hn | hn
  · obtain ⟨hon, -⟩ := s.onTicks_bounds hw j hj hn
    rw [State.beginCycle_cycle j s hn hon]
    exact .pwm hn
  · rw [State.beginCycle_exit j s hn]
    exact .exit hn

/-- An off-phase that is not empty (44_ramp_engine.md R137). -/
theorem State.endOnPhase_of_ne_zero {off : Nat} (s : State) (hoff : off ≠ 0) :
    s.endOnPhase off = { s with motor := false, timer := off - 1, ph := .rampOff } := by
  rw [State.endOnPhase, if_neg hoff]
  exact State.startDelay_eq off .rampOff (s.setMotor false) (Nat.one_le_iff_ne_zero.mpr hoff)

/-- An empty off-phase is skipped (44_ramp_engine.md R137). -/
theorem State.endOnPhase_zero (s : State) : s.endOnPhase 0 = s.beginCycle (s.i + 1) := if_pos rfl

theorem effect_rampOnEnd_turn (lv : Inputs) {s : State} (hw : s.cfg.WellFormed) (hph : s.ph = .rampOn)
    (htimer : s.timer = 0) : SeqTurn lv s (effect .rampOnEnd s) := by
  rw [effect_rampOnEnd s hw]
  by_cases hoff : s.preset.offTicks s.cfg.period s.i = 0
  · rw [hoff, State.endOnPhase_zero]
    exact .skipOffPhase hph htimer hoff (State.beginCycle_loopHead hw (Nat.le_add_left 1 s.i))
  · rw [State.endOnPhase_of_ne_zero s hoff]
    exact .offPhase hph htimer hoff

/-- A turn with `timer` at 0 in a timed phase ends the phase. -/
theorem seqTurn_of_timeout (lv : Inputs) {s : State} (hw : s.cfg.WellFormed) (hph : s.ph.Timed) (htimer : s.timer = 0) :
    SeqTurn lv s (effect (seqOp lv s) s) := by
  rw [seqOp_eq, decide_eq_true htimer]
  obtain h | h | h | h | h := hph <;> rw [h]
  · exact effect_tcFire s hw ▸ .tcFire h htimer
  · cases hms : s.ms with
    | off => exact effect_stepFireOn s hw ▸ .stepFireOn h htimer hms
    | on => exact effect_stepFireOff s hw ▸ .stepFireOff h htimer hms
    | rampingUp => exact effect_stepFireNop s hw ▸ .stepFireNop h htimer (.inl hms)
    | pendingOff => exact effect_stepFireNop s hw ▸ .stepFireNop h htimer (.inr hms)
  · exact effect_poffFire s hw ▸ .poffFire h htimer
  · exact effect_rampOnEnd_turn lv hw h htimer
  · exact effect_rampOffEnd s hw ▸ .rampOffEnd h htimer (State.beginCycle_loopHead hw (Nat.le_add_left 1 s.i))

theorem seqTurn_of_timed (lv : Inputs) {s : State} (hw : s.cfg.WellFormed) (hph : s.ph.Timed) :
    SeqTurn lv s (effect (seqOp lv s) s) := by
  by_cases htimer : s.timer = 0
  · exact seqTurn_of_timeout lv hw hph htimer
  · exact effect_seqOp_of_timed lv hw hph htimer ▸ .wait hph htimer

/-- Every turn of the sequencer is one of these: `DISPATCH`, `TC` and `STEP` row by row, the timed phases by `timer`. -/
theorem seqTurn (lv : Inputs) {s : State} (hw : s.cfg.WellFormed) : SeqTurn lv s (effect (seqOp lv s) s) := by
  cases hph : s.ph with
  | dispatch =>
    rw [seqOp_eq, hph]
    cases hms : s.ms with
    | off => exact effect_dispIdle s hw ▸ .dispIdle hph (.inl hms)
    | on => exact effect_dispIdle s hw ▸ .dispIdle hph (.inr hms)
    | rampingUp =>
      exact effect_rampBegin s hw ▸ .rampBegin hph hms
        (State.beginCycle_loopHead (s := s.setLed (ledBegin s.led)) hw le_rfl)
    | pendingOff =>
      cases hline : lv.rampN with
      | false =>
        simp only [phaseLine, lineRead, hline]
        exact effect_poffHeld s hw ▸ .poffHeld hph hms hline
      | true =>
        have hdelay := (effect_poffRel s hw).trans (s.startDelay_settle .poffSettle hw)
        simp only [phaseLine, lineRead, hline]
        exact hdelay ▸ .poffRel hph hms hline
  | tc =>
    cases hline : lv.tcN with
    | true =>
      simp only [seqOp_eq, hph, phaseLine, lineRead, hline]
      exact effect_tcRelease s hw ▸ .tcRelease hph hline
    | false =>
      simp only [seqOp_eq, hph, phaseLine, lineRead, hline, State.phaseLatch]
      cases hlat : s.tcLatched with
      | false => exact effect_tcPress_eq s hw ▸ .tcPress hph hline hlat
      | true => exact effect_tcHeld s hw ▸ .tcHeld hph hline hlat
  | step =>
    cases hline : lv.stepN with
    | true =>
      simp only [seqOp_eq, hph, phaseLine, lineRead, hline]
      exact effect_stepRelease s hw ▸ .stepRelease hph hline
    | false =>
      simp only [seqOp_eq, hph, phaseLine, lineRead, hline, State.phaseLatch]
      cases hlat : s.stepLatched with
      | false => exact effect_stepPress_eq s hw ▸ .stepPress hph hline hlat
      | true => exact effect_stepHeld s hw ▸ .stepHeld hph hline hlat
  | tcSettle => exact seqTurn_of_timed lv hw (.inl hph)
  | stepSettle => exact seqTurn_of_timed lv hw (.inr (.inl hph))
  | poffSettle => exact seqTurn_of_timed lv hw (.inr (.inr (.inl hph)))
  | rampOn => exact seqTurn_of_timed lv hw (.inr (.inr (.inr (.inl hph))))
  | rampOff => exact seqTurn_of_timed lv hw (.inr (.inr (.inr (.inr hph))))

/-! ## Cycles and steps by their turns -/

/-- A cycle without reset is the sequencer's turn on the registers after the latch. -/
theorem cycleEffect_turn (lv : Inputs) {s : State} (hw : s.cfg.WellFormed) :
    SeqTurn lv (afterLatch lv s) (cycleEffect lv s) := by
  rw [cycleEffect_eq lv s hw]
  exact seqTurn lv (s := afterLatch lv s) hw

/-- Where a cycle without reset answers, it answers the sequencer's turn. -/
theorem turn_of_cycle {lv : Inputs} {s t : State} (hrst : lv.rst = false) (h : cycle lv s = .next t) :
    s.cfg.WellFormed ∧ SeqTurn lv (afterLatch lv s) t := by
  obtain ⟨hw, rfl⟩ := (cycle_next_iff lv s t).mp h
  rw [hrst]
  exact ⟨hw, cycleEffect_turn lv hw⟩

/-- What `RESET` establishes and what the latch and the sequencer keep, every step keeps; the stimulus and the cycle
number, which the step takes the input levels from, must not matter to it. -/
theorem step_keeps {P : State → Prop} (hinputs : ∀ (s : State) stim tick, P s → P { s with stim, tick })
    (hclear : ∀ s : State, s.cfg.WellFormed → P s → P s.clear)
    (hcycle : ∀ lv s t, s.cfg.WellFormed → P s → SeqTurn lv (afterLatch lv s) t → P t)
    {s t : State} (hstep : step s = .next t) (hP : P s) : P t := by
  obtain ⟨lv, s', hinp, hcyc⟩ := (step_next_iff s t).mp hstep
  have hP' : P s' := takeInputs_frame s s' lv hinp ▸ hinputs s s'.stim (s.tick + 1) hP
  cases hrst : lv.rst with
  | true =>
    obtain ⟨hw, rfl⟩ := (cycle_next_iff lv s' t).mp hcyc
    rw [hrst]
    exact hclear s' hw hP'
  | false =>
    obtain ⟨hw, hturn⟩ := turn_of_cycle hrst hcyc
    exact hcycle lv s' t hw hP' hturn

end Sys2Proof.Machine

/-!
The invariants INV1 to INV7 (10_state.md R24), the indicators of a ramp and the register widths, kept by every step.
Outside the ramp INV1, INV2 and INV6 together tie the outputs to the motor state; inside it INV3 alone does.
-/
namespace Sys2Proof

/-! ## What WF5 gives -/

/-- `timer` holds every settle delay and every part of a PWM period (00_scope.md R5, WF5). -/
theorem Cfg.WellFormed.sub_one_lt_pow_wT {c : Cfg} (hw : c.WellFormed) {d : Nat} (hd : d ≤ c.settle ∨ d ≤ c.period) :
    d - 1 < 2 ^ c.wT := by
  obtain ⟨htimer, -⟩ := hw.widthsFit
  exact (Nat.sub_le_sub_right (le_max_iff.mpr hd) 1).trans_lt htimer

/-- `i` holds the step count of every preset (00_scope.md R5, WF5). -/
theorem Cfg.WellFormed.presetRead_n_lt_pow_wI {c : Cfg} (hw : c.WellFormed) (p : BitVec 2) :
    (c.presetRead p).n < 2 ^ c.wI := by
  obtain ⟨-, hi⟩ := hw.widthsFit
  simp only [max_lt_iff] at hi
  obtain ⟨⟨h0, h1⟩, h2, h3⟩ := hi
  unfold Cfg.presetRead
  split_ifs <;> assumption

end Sys2Proof

namespace Sys2Proof.Machine

/-! ## The invariants by phase -/

/-- INV1, INV2 and INV6 where no ramp is in progress: motor and indicators go with the motor state. -/
abbrev State.OutputsFit (s : State) : Prop :=
  (s.ms = .off ∨ s.ms = .rampingUp → s.motor = false ∧ s.led = ledNone) ∧
    (s.ms = .on ∨ s.ms = .pendingOff → s.motor = true ∧ s.led.getLsbD 0 = true)

/-- The three settle phases, in which `timer` counts the settle delay (10_state.md R14). -/
abbrev State.InSettle (s : State) : Prop := s.ph = .tcSettle ∨ s.ph = .stepSettle ∨ s.ph = .poffSettle

/-- INV1 to INV7 outside a ramp. -/
theorem State.inv_iff_of_not_inRamp {s : State} (hr : ¬ s.InRamp) :
    s.Inv ↔ s.OutputsFit ∧ s.Inv4 ∧ s.Inv5 ∧ (s.InSettle → s.timer < s.cfg.settle) := by
  constructor
  · rintro ⟨hoff, hon, -, hpoff, hlat, hup, ⟨hsettle, -⟩⟩
    exact ⟨⟨fun h => h.elim hoff fun h => hup ⟨h, hr⟩, hon⟩, hpoff, hlat, hsettle⟩
  · rintro ⟨⟨hoff, hon⟩, hpoff, hlat, hsettle⟩
    exact ⟨fun h => hoff (.inl h), hon, fun h => absurd h hr, hpoff, hlat, fun h => hoff (.inr h.1), hsettle,
      fun h => absurd (.inl h) hr, fun h => absurd (.inr h) hr⟩

theorem State.Inv.outputsFit {s : State} (h : s.Inv) (hr : ¬ s.InRamp) : s.OutputsFit :=
  ((State.inv_iff_of_not_inRamp hr).mp h).1

/-- In `DISPATCH`, `TC` and `STEP` the outputs are all there is to keep. -/
theorem State.inv_of_polling {s : State} (hph : s.ph = .dispatch ∨ s.ph = .tc ∨ s.ph = .step) (h : s.OutputsFit) :
    s.Inv := by
  have hr : ¬ s.InRamp := by obtain e | e | e := hph <;> simp [State.InRamp, e]
  refine (State.inv_iff_of_not_inRamp hr).mpr ⟨h, ?_⟩
  obtain e | e | e := hph <;> simp [State.Inv4, State.Inv5, State.InSettle, e]

/-- INV1 to INV7 in a ramp. -/
theorem State.inv_of_inRamp {s : State} (hr : s.InRamp) (hms : s.ms = .rampingUp) (hled : s.led.getLsbD 0 = true)
    (hi : 1 ≤ s.i) (hn : s.i < s.preset.n) (hmotor : s.motor = true ↔ s.ph = .rampOn)
    (hon : s.ph = .rampOn → s.timer < s.preset.onTicks s.i)
    (hoff : s.ph = .rampOff → s.timer < s.preset.offTicks s.cfg.period s.i) : s.Inv := by
  have hsettle : ¬ s.InSettle := by obtain h | h := hr <;> simp [State.InSettle, h]
  refine ⟨fun h => ?inv1, fun h => ?inv2, fun _ => ⟨hms, hled, hi, by omega, hmotor⟩,
    fun h => absurd (.inr (.inr h)) hsettle,
    ⟨fun h => absurd (.inl h) hsettle, fun h => absurd (.inr (.inl h)) hsettle⟩, fun h => absurd hr h.2,
    fun h => absurd h hsettle, hon, hoff⟩
  case inv1 => cases hms.symm.trans h
  case inv2 => simp [hms] at h

/-- What INV3 says of a ramp in progress. -/
theorem State.Inv.inRamp {s : State} (h : s.Inv) (hr : s.InRamp) :
    s.ms = .rampingUp ∧ s.led.getLsbD 0 = true ∧ 1 ≤ s.i ∧ s.i < s.preset.n := by
  obtain ⟨-, -, hramp, -⟩ := h
  obtain ⟨hms, hled, hi, hn, -⟩ := hramp hr
  exact ⟨hms, hled, hi, by omega⟩

/-- The index of a ramp in progress has an on-time within the period (00_scope.md R6, WF2). -/
theorem State.Inv.onTicks_bounds {s : State} (hw : s.cfg.WellFormed) (h : s.Inv) (hr : s.InRamp) :
    1 ≤ s.preset.onTicks s.i ∧ s.preset.onTicks s.i ≤ s.cfg.period := by
  obtain ⟨-, -, hi, hn⟩ := h.inRamp hr
  exact s.onTicks_bounds hw s.i hi hn

/-! ## INV1 to INV7 -/

/-- Switched on, the bank has all five indicators asserted (43_motor_state.md R117). -/
theorem ledAll_bit {k : Nat} (hk : k < 5) : ledAll.getLsbD k = true := by
  have hall : ledAll = BitVec.allOnes 5 := rfl
  rw [hall, BitVec.getLsbD_allOnes, decide_eq_true hk]

theorem State.clear_inv (s : State) : s.clear.Inv :=
  State.inv_of_polling (.inl rfl) ⟨fun _ => ⟨rfl, rfl⟩, nofun⟩

/-- The latch writes RampingUp where all outputs are off, and PendingOff where the motor is on. -/
theorem afterLatch_inv (lv : Inputs) {s : State} (h : s.Inv) : (afterLatch lv s).Inv := by
  have hsame : ∀ m, m = s.ms → State.Inv { s with ms := m, rampPrev := lv.rampN } := by
    rintro m rfl
    exact h
  obtain ⟨hoff, hon, hramp, hpoff, hlat, hup, htimer⟩ := h
  unfold afterLatch
  cases hms : s.ms <;> cases edgeDetect s.rampPrev lv.rampN
  case off.true =>
    exact ⟨nofun, nofun, fun hr => absurd (hms.symm.trans (hramp hr).1) nofun,
      fun hp => absurd (hms.symm.trans (hpoff hp)) nofun, hlat, fun _ => hoff hms, htimer⟩
  case on.true =>
    exact ⟨nofun, fun _ => hon (.inl hms), fun hr => absurd (hms.symm.trans (hramp hr).1) nofun,
      fun hp => absurd (hms.symm.trans (hpoff hp)) nofun, hlat, nofun, htimer⟩
  all_goals exact hsame _ hms.symm

/-- Where the loop head leaves a ramp, and where it goes on (44_ramp_engine.md R134). -/
theorem LoopHead.inv {j : Nat} {s t : State} (h : LoopHead j s t) (hw : s.cfg.WellFormed) (hj : 1 ≤ j)
    (hms : s.ms = .rampingUp) (hled : s.led.getLsbD 0 = true) : t.Inv := by
  cases h with
  | exit => exact State.inv_of_polling (.inr (.inl rfl)) ⟨nofun, fun _ => ⟨rfl, hled⟩⟩
  | pwm hn =>
    obtain ⟨hon, -⟩ := s.onTicks_bounds hw j hj hn
    have hled' : (s.led ||| s.preset.hits j).getLsbD 0 = true := by rw [BitVec.getLsbD_or, hled, Bool.true_or]
    exact State.inv_of_inRamp (.inl rfl) hms hled' hj hn (iff_of_true rfl rfl) (fun _ => Nat.sub_one_lt_of_lt hon) nofun

/-- A press or the observed release of the ramp line starts its settle delay with `timer` below it. -/
theorem State.inv_of_settle {s : State} (hw : s.cfg.WellFormed) (hph : s.InSettle) (hout : s.OutputsFit)
    (hpoff : s.Inv4) (hlat : s.Inv5) (htimer : s.timer = s.cfg.settle - 1) : s.Inv := by
  have hr : ¬ s.InRamp := by obtain e | e | e := hph <;> simp [State.InRamp, e]
  have hpos := Cfg.WellFormed.settle_pos s.cfg hw
  exact (State.inv_iff_of_not_inRamp hr).mpr ⟨hout, hpoff, hlat, fun _ => by omega⟩

/-- Every turn keeps INV1 to INV7. -/
theorem SeqTurn.inv {lv : Inputs} {u t : State} (h : SeqTurn lv u t) (hw : u.cfg.WellFormed) (hinv : u.Inv) :
    t.Inv := by
  have hout : ¬ u.InRamp → u.OutputsFit := hinv.outputsFit
  cases h with
  | dispIdle hph | poffHeld hph | tcHeld hph | tcRelease hph | tcFire hph | stepHeld hph | stepRelease hph
  | stepFireNop hph => exact State.inv_of_polling (by simp) (hout (by simp [State.InRamp, hph]))
  | rampBegin hph hms hloop =>
    exact hloop.inv hw le_rfl hms (ledBegin_bit_zero u.led)
  | poffRel hph hms =>
    exact State.inv_of_settle hw (.inr (.inr rfl)) (hout (by simp [State.InRamp, hph])) (fun _ => hms)
      ⟨nofun, nofun⟩ rfl
  | tcPress hph =>
    exact State.inv_of_settle (s := u.pressTc) hw (.inl rfl) (hout (by simp [State.InRamp, hph])) nofun
      ⟨fun _ => rfl, nofun⟩ rfl
  | stepPress hph =>
    exact State.inv_of_settle (s := u.pressStep) hw (.inr (.inl rfl)) (hout (by simp [State.InRamp, hph])) nofun
      ⟨nofun, fun _ => rfl⟩ rfl
  | stepFireOn => exact State.inv_of_polling (.inl rfl) ⟨nofun, fun _ => ⟨rfl, ledAll_bit (by decide)⟩⟩
  | stepFireOff => exact State.inv_of_polling (.inl rfl) ⟨fun _ => ⟨rfl, rfl⟩, nofun⟩
  | poffFire => exact State.inv_of_polling (.inr (.inl rfl)) ⟨fun _ => ⟨rfl, rfl⟩, nofun⟩
  | wait =>
    obtain ⟨hoff, hon, hramp, hpoff, hlat, hup, ⟨hsettle, hrampOn, hrampOff⟩⟩ := hinv
    have hle : u.timer - 1 ≤ u.timer := Nat.sub_le _ _
    exact ⟨hoff, hon, hramp, hpoff, hlat, hup, fun h => hle.trans_lt (hsettle h), fun h => hle.trans_lt (hrampOn h),
      fun h => hle.trans_lt (hrampOff h)⟩
  | offPhase hph _ hoff =>
    obtain ⟨hms, hled, hi, hn⟩ := hinv.inRamp (.inl hph)
    exact State.inv_of_inRamp (.inr rfl) hms hled hi hn (iff_of_false nofun nofun) nofun fun _ => Nat.sub_one_lt hoff
  | skipOffPhase hph _ _ hloop =>
    obtain ⟨hms, hled, -⟩ := hinv.inRamp (.inl hph)
    exact hloop.inv hw (Nat.le_add_left 1 _) hms hled
  | rampOffEnd hph _ hloop =>
    obtain ⟨hms, hled, -⟩ := hinv.inRamp (.inr hph)
    exact hloop.inv hw (Nat.le_add_left 1 _) hms hled

/-- Settles O31: the latch and each of the sequencer's turns keep INV1 to INV7, and `RESET` establishes them. -/
theorem everyStepKeepsInvariants : Obligations.EveryStepKeepsInvariants := fun _ _ hinv hstep =>
  step_keeps (fun _ _ _ h => h) (fun s _ _ => s.clear_inv)
    (fun lv _ _ hw h hturn => hturn.inv hw (afterLatch_inv lv h)) hstep hinv

/-! ## The indicators of a ramp -/

/-- Each indicator's place in the bank: LED0, or LED(k+1) with the comparator k. -/
theorem led_ext {a b : BitVec 5} (hzero : a.getLsbD 0 = b.getLsbD 0)
    (hsucc : ∀ k : Fin 4, a.getLsbD (k.val + 1) = b.getLsbD (k.val + 1)) : a = b := by
  refine BitVec.eq_of_getLsbD_eq fun p hp => ?_
  cases p with
  | zero => exact hzero
  | succ k => exact hsucc ⟨k, Nat.lt_of_succ_lt_succ hp⟩

/-- The first PWM cycle finds all indicators off, so the loop head leaves LED0 and those it reaches
(44_ramp_engine.md R135). -/
theorem ledStagger_ledNone (r : Preset) (j : Nat) : ledStagger r j (ledBegin ledNone) = ledBegin (r.hits j) := by
  refine led_ext ?_ fun k => ?_
  · rw [ledStagger_bit_zero, ledBegin_bit_zero, ledBegin_bit_zero]
  · have hnone : ledNone.getLsbD (k.val + 1) = false := BitVec.getLsbD_zero
    rw [ledStagger_bit_succ, ledBegin_bit_succ, ledBegin_bit_succ, Preset.hits_bit_succ, hnone, Bool.false_or]

/-- A threshold reached by one step is reached by the next, so the loop head of a step leaves what it would without the
loop head of the step before (44_ramp_engine.md R134). -/
theorem ledStagger_ledStagger (r : Preset) (j : Nat) (led : BitVec 5) :
    ledStagger r (j + 1) (ledStagger r j led) = ledStagger r (j + 1) led := by
  refine led_ext ?_ fun k => ?_
  · simp only [ledStagger_bit_zero]
  · have hreached : r.threshold k ≤ j → r.threshold k ≤ j + 1 := Nat.le_succ_of_le
    rw [ledStagger_bit_succ, ledStagger_bit_succ, ledStagger_bit_succ, Bool.or_assoc, ← Bool.decide_or,
      decide_eq_decide.mpr (or_iff_right_of_imp hreached)]

/-- The loop head leaves exactly the indicators it reaches, where the step before did (44_ramp_engine.md R134). -/
theorem ledStagger_succ (r : Preset) (j : Nat) :
    ledStagger r (j + 1) (ledBegin (r.hits j)) = ledBegin (r.hits (j + 1)) := by
  rw [← ledStagger_ledNone, ledStagger_ledStagger, ledStagger_ledNone]

theorem State.ledsTrackRamp_of_not_inRamp {s : State} (hr : ¬ s.InRamp) : s.LedsTrackRamp := fun h => absurd h hr

theorem LoopHead.ledsTrackRamp {j : Nat} {s t : State} (h : LoopHead j s t)
    (hled : ledStagger s.preset j s.led = ledBegin (s.preset.hits j)) : t.LedsTrackRamp := by
  cases h with
  | exit => exact State.ledsTrackRamp_of_not_inRamp (by simp [State.InRamp])
  | pwm => exact fun _ => hled

/-- Every turn keeps the indicators of a ramp at LED0 and the thresholds reached. -/
theorem SeqTurn.ledsTrackRamp {lv : Inputs} {u t : State} (h : SeqTurn lv u t) (hinv : u.Inv) (hled : u.LedsTrackRamp) :
    t.LedsTrackRamp := by
  cases h with
  | rampBegin hph hms hloop =>
    obtain ⟨hup, -⟩ := hinv.outputsFit (by simp [State.InRamp, hph])
    obtain ⟨-, hnone⟩ := hup (.inr hms)
    refine hloop.ledsTrackRamp ?_
    rw [hnone]
    exact ledStagger_ledNone u.preset 1
  | wait => exact hled
  | offPhase hph => exact fun _ => hled (.inl hph)
  | skipOffPhase hph _ _ hloop =>
    refine hloop.ledsTrackRamp ?_
    rw [hled (.inl hph)]
    exact ledStagger_succ u.preset u.i
  | rampOffEnd hph _ hloop =>
    refine hloop.ledsTrackRamp ?_
    rw [hled (.inr hph)]
    exact ledStagger_succ u.preset u.i
  | _ => exact State.ledsTrackRamp_of_not_inRamp (by simp [State.InRamp, State.pressTc, State.pressStep])

/-- Settles O32: the loop head adds to the bank exactly the thresholds the new step reaches, and begins with an empty
one by INV6. -/
theorem everyStepKeepsLedsOnRamp : Obligations.EveryStepKeepsLedsOnRamp := fun _ _ hinv hled hstep =>
  (step_keeps (P := fun s => s.Inv ∧ s.LedsTrackRamp) (fun _ _ _ h => h)
    (fun s _ _ => ⟨s.clear_inv, State.ledsTrackRamp_of_not_inRamp (by simp [State.InRamp, State.clear])⟩)
    (fun lv _ _ hw ⟨hinv, hled⟩ hturn =>
      have hinv' := afterLatch_inv lv hinv
      ⟨hturn.inv hw hinv', hturn.ledsTrackRamp hinv' hled⟩)
    hstep ⟨hinv, hled⟩).2

/-! ## The register widths -/

theorem State.clear_fitsWidths (s : State) : s.clear.FitsWidths := ⟨Nat.two_pow_pos _, Nat.two_pow_pos _⟩

/-- The loop head for a step of the ramp, or for the one after its last. -/
theorem LoopHead.fitsWidths {j : Nat} {s t : State} (h : LoopHead j s t) (hw : s.cfg.WellFormed) (hj : 1 ≤ j)
    (hn : j ≤ s.preset.n) (hfits : s.timer < 2 ^ s.cfg.wT) : t.FitsWidths := by
  have hi : j < 2 ^ s.cfg.wI := hn.trans_lt (hw.presetRead_n_lt_pow_wI s.pidx)
  cases h with
  | exit => exact ⟨hfits, hi⟩
  | pwm hn =>
    obtain ⟨-, hle⟩ := s.onTicks_bounds hw j hj hn
    exact ⟨hw.sub_one_lt_pow_wT (.inr hle), hi⟩

/-- Every turn keeps `timer` and `i` within their registers. -/
theorem SeqTurn.fitsWidths {lv : Inputs} {u t : State} (h : SeqTurn lv u t) (hw : u.cfg.WellFormed) (hinv : u.Inv)
    (hfits : u.FitsWidths) : t.FitsWidths := by
  obtain ⟨htimer, hi⟩ := hfits
  have hsettle : u.cfg.settle - 1 < 2 ^ u.cfg.wT := hw.sub_one_lt_pow_wT (.inl le_rfl)
  cases h with
  | poffRel | tcPress | stepPress => exact ⟨hsettle, hi⟩
  | rampBegin _ _ hloop =>
    exact hloop.fitsWidths hw le_rfl (Cfg.WellFormed.presetRead u.cfg hw u.pidx).hasStep htimer
  | wait => exact ⟨(Nat.sub_le _ _).trans_lt htimer, hi⟩
  | offPhase hph =>
    obtain ⟨-, hle⟩ := hinv.onTicks_bounds hw (.inl hph)
    have hsum := Preset.onTicks_add_offTicks hle
    exact ⟨hw.sub_one_lt_pow_wT (.inr (by omega)), hi⟩
  | skipOffPhase hph _ _ hloop =>
    obtain ⟨-, -, -, hn⟩ := hinv.inRamp (.inl hph)
    exact hloop.fitsWidths hw (Nat.le_add_left 1 _) hn htimer
  | rampOffEnd hph _ hloop =>
    obtain ⟨-, -, -, hn⟩ := hinv.inRamp (.inr hph)
    exact hloop.fitsWidths hw (Nat.le_add_left 1 _) hn htimer
  | _ => exact ⟨htimer, hi⟩

/-- Settles O33: `timer` is loaded with a duration less one, and the loop head counts `i` up to N at most, by INV3. -/
theorem everyStepKeepsWidths : Obligations.EveryStepKeepsWidths := fun _ _ hinv hfits hstep =>
  (step_keeps (P := fun s => s.Inv ∧ s.FitsWidths) (fun _ _ _ h => h)
    (fun s _ _ => ⟨s.clear_inv, s.clear_fitsWidths⟩)
    (fun lv _ _ hw ⟨hinv, hfits⟩ hturn =>
      have hinv' := afterLatch_inv lv hinv
      ⟨hturn.inv hw hinv', hturn.fitsWidths hw hinv' hfits⟩)
    hstep ⟨hinv, hfits⟩).2

end Sys2Proof.Machine

/-!
The words of the two exchange formats (30_encoding.md R53, R62): a preset word and a stimulus word are made of their
fields and hold nothing else but the reserved field.
-/
namespace Sys2Proof

/-! ## Preset words -/

/-- The reserved field is packed as zero (30_encoding.md R53). -/
theorem Preset.reserved_toWord (r : Preset) : r.toWord.reserved = 0#8 := by
  simp (disch := omega) only [PresetWord.reserved, Preset.toWord, BitVec.extractLsb'_append_eq_of_le]
  exact BitVec.extractLsb'_eq_self

/-- Each field is read where it was packed, and fits there. -/
theorem Preset.toPreset_toWord {r : Preset} (h : r.Packable) : r.toWord.toPreset = r := by
  obtain ⟨hn, hslope, hoffset, hth1, hth2, hth3, hth4⟩ := h
  simp (disch := omega) only [PresetWord.toPreset, Preset.toWord, BitVec.extractLsb'_append_eq_of_le,
    BitVec.extractLsb'_append_eq_of_add_le, Nat.sub_self, Nat.reduceSub, BitVec.extractLsb'_eq_self, BitVec.toNat_ofNat,
    Nat.mod_eq_of_lt]

/-- A field read from a word fits the width it was read with. -/
theorem PresetWord.packable_toPreset (w : PresetWord) : w.toPreset.Packable :=
  ⟨BitVec.isLt _, BitVec.isLt _, BitVec.isLt _, BitVec.isLt _, BitVec.isLt _, BitVec.isLt _, BitVec.isLt _⟩

/-- The eight fields of a preset word lie side by side and cover it (30_encoding.md R53). -/
theorem PresetWord.eq_append (w : PresetWord) :
    w = w.extractLsb' 120 8 ++ w.extractLsb' 104 16 ++ w.extractLsb' 88 16 ++ w.extractLsb' 72 16
      ++ w.extractLsb' 56 16 ++ w.extractLsb' 40 16 ++ w.extractLsb' 16 24 ++ w.extractLsb' 0 16 := by
  simp (disch := rfl) only [BitVec.extractLsb'_append_extractLsb'_eq_extractLsb']
  exact BitVec.extractLsb'_eq_self.symm

theorem PresetWord.toWord_toPreset {w : PresetWord} (h : w.WellFormed) : w.toPreset.toWord = w := by
  have hreserved : w.extractLsb' 120 8 = 0#8 := h
  simp only [Preset.toWord, PresetWord.toPreset, BitVec.ofNat_toNat, BitVec.setWidth_eq]
  rw [← hreserved]
  exact w.eq_append.symm

/-! ## Stimulus words -/

@[simp] theorem StimWord.count_make (n : BitVec 28) (lv : Inputs) : StimWord.count (StimWord.make n lv) = n := by
  simp (disch := omega) only [StimWord.count, StimWord.make, BitVec.extractLsb'_append_eq_of_le]
  exact BitVec.extractLsb'_eq_self

@[simp] theorem StimWord.levels_make (n : BitVec 28) (lv : Inputs) : StimWord.levels (StimWord.make n lv) = lv := by
  simp only [StimWord.levels, StimWord.make, BitVec.getLsbD_append]
  simp

/-- A bit read from a word, as a field of width 1. -/
theorem ofBool_getLsbD {w : Nat} (x : BitVec w) (j : Nat) : BitVec.ofBool (x.getLsbD j) = x.extractLsb' j 1 := by
  refine BitVec.eq_of_getLsbD_eq fun k hk => ?_
  obtain rfl : k = 0 := Nat.lt_one_iff.mp hk
  simp

/-- The count and the four levels lie side by side and cover a stimulus word (30_encoding.md R62). -/
theorem StimWord.make_count_levels (w : StimWord) : StimWord.make w.count w.levels = w := by
  simp (disch := rfl) only [StimWord.make, StimWord.count, StimWord.levels, ofBool_getLsbD,
    BitVec.extractLsb'_append_extractLsb'_eq_extractLsb']
  exact BitVec.extractLsb'_eq_self

/-- A bit put below a word. -/
theorem toNat_append_ofBool {w : Nat} (x : BitVec w) (b : Bool) :
    (x ++ BitVec.ofBool b).toNat = 2 * x.toNat + b.toNat := by
  have hb : b.toNat < 2 ^ 1 := b.toNat_lt
  rw [BitVec.toNat_append, BitVec.toNat_ofBool, ← Nat.shiftLeft_add_eq_or_of_lt hb, Nat.shiftLeft_eq]
  omega

/-- The bit places of 30_encoding.md R62. -/
theorem StimWord.toNat_make (n : BitVec 28) (lv : Inputs) :
    (StimWord.make n lv).toNat =
      n.toNat * 16 + lv.rst.toNat * 8 + lv.rampN.toNat * 4 + lv.tcN.toNat * 2 + lv.stepN.toNat := by
  simp only [StimWord.make, toNat_append_ofBool]
  omega

/-! ## The bits of a word that its row does not examine -/

/-- The bits of a selector of each table, among the eight (30_encoding.md R55). -/
def SelKind.widthMask : SelKind → BitVec 8
  | .rsel => 0b00000001#8
  | .lsel => 0b00000111#8
  | .ssel => 0b11111111#8

theorem Selector.kind_make (k : SelKind) (b : BitVec 8) : (Selector.make k b).kind = k := by
  cases k <;> rfl

theorem Selector.bits_make (k : SelKind) (b : BitVec 8) : (Selector.make k b).bits = b &&& k.widthMask := by
  revert b
  cases k <;> decide

/-- Each row examines only bits of its selector, and its match bits are examined (30_encoding.md R55 to R58). -/
theorem Instr.row_masks (i : Instr) :
    i.row.kind.widthMask &&& i.row.maskBits = i.row.maskBits ∧
      i.row.matchBits &&& i.row.maskBits = i.row.matchBits := by
  cases i <;> decide

/-- An encoded word lies on its row, whatever fills the bits the row does not examine. -/
theorem encodeWith_matches (i : Instr) (fill : BitVec 8) : i.row.Matches (encodeWith i fill) := by
  obtain ⟨hwidth, hmatch⟩ := i.row_masks
  refine ⟨(Selector.kind_make _ _).symm, ?_⟩
  rw [encodeWith, Selector.bits_make, BitVec.and_assoc, hwidth]
  calc (i.row.matchBits ||| fill &&& ~~~ i.row.maskBits) &&& i.row.maskBits
      = i.row.matchBits &&& i.row.maskBits ||| fill &&& (~~~ i.row.maskBits &&& i.row.maskBits) := by
        rw [BitVec.and_comm, BitVec.and_or_distrib_left, BitVec.and_comm,
          BitVec.and_comm i.row.maskBits, BitVec.and_assoc]
    _ = i.row.matchBits := by
        rw [hmatch, BitVec.and_comm (~~~ _), BitVec.and_not_self]
        simp

end Sys2Proof

namespace Sys2Proof.Machine

/-! ## The statements -/

/-- Settles O4: fields packed side by side are read back, and a word with a zero reserved field is its fields. -/
theorem presetWordRoundTrip : Obligations.PresetWordRoundTrip :=
  ⟨fun r h => ⟨r.reserved_toWord, Preset.toPreset_toWord h⟩,
    fun w h => ⟨w.packable_toPreset, PresetWord.toWord_toPreset h⟩⟩

/-- Settles O5: the fields of a made word, the word made from its fields, and the value bit by bit. -/
theorem stimulusWordRoundTrip : Obligations.StimulusWordRoundTrip :=
  ⟨fun n lv => ⟨StimWord.count_make n lv, StimWord.levels_make n lv⟩, StimWord.make_count_levels,
    fun n r a t b => StimWord.toNat_make n ⟨r, a, t, b⟩⟩

/-- Settles O1: each of the five words lies on the row of its operation, and `rsel` = 0 on none. -/
theorem writtenWordsDecode : Obligations.WrittenWordsDecode :=
  ⟨(decode_eq_ok_iff _ _).mpr (by decide), (decode_eq_ok_iff _ _).mpr (by decide),
    (decode_eq_ok_iff _ _).mpr (by decide), (decode_eq_ok_iff _ _).mpr (by decide), decode_rsel_one, rfl⟩

/-- Settles O3: an encoded word lies on its row, and the decoder answers the operation of the row. -/
theorem decodeOfEveryEncoding : Obligations.DecodeOfEveryEncoding := fun i fill =>
  (decode_eq_ok_iff _ i).mpr (encodeWith_matches i fill)

/-- Settles O6: in each phase `lvl` and `lat` are the line and the latch of that phase. -/
theorem selectionByFields : Obligations.SelectionByFields := by
  refine fun s lv => ⟨latchOp_eq lv s, fun hph => ?tc, fun hph => ?step, fun hph => ?other⟩
  case tc => obtain h | h := hph <;> rw [seqOp_eq, State.phaseLatch, h] <;> rfl
  case step => obtain h | h := hph <;> rw [seqOp_eq, State.phaseLatch, h] <;> rfl
  case other => obtain h | h | h | h := hph <;> rw [seqOp_eq, State.phaseLatch, h] <;> rfl

end Sys2Proof.Machine

/-!
The step (40_cycle_step.md R70): what is taken from the stimulus queue, when a step answers and when it is refused, and
the loader and start-up that make a configuration ready for it.
-/
namespace Sys2Proof

/-! ## The reference configuration -/

/-- With at least one cycle per step, on-times of a linear ramp rise, and their bounds are those of the ends. -/
theorem Preset.wellFormed_of_slope {period : Nat} {r : Preset} (hstep : r.HasStep) (hslope : 256 ≤ r.slope)
    (hoffset : 1 ≤ r.offset) (hlast : r.onTicks (r.n - 1) ≤ period) (hth : r.ThresholdsExact) :
    r.WellFormed period where
  hasStep := hstep
  thresholdsExact := hth
  onTimesFit i hn _ := by
    have hmul : i * r.slope ≤ (r.n - 1) * r.slope := Nat.mul_le_mul_right _ (by omega)
    simp only [Preset.onTicks_eq_div] at hlast ⊢
    omega
  onTimesRise i _ _ := by
    simp only [Preset.onTicks_eq_div, Nat.succ_mul]
    omega

/-- REF of 00_scope.md R5 is a configuration. -/
theorem ref_wellFormed : Config.ref.WellFormed where
  clkPos := by decide
  periodPos := by decide
  preset0 := Preset.wellFormed_of_slope (by decide) (by decide) (by decide) (by decide) (by decide)
  preset1 := Preset.wellFormed_of_slope (by decide) (by decide) (by decide) (by decide) (by decide)
  preset2 := Preset.wellFormed_of_slope (by decide) (by decide) (by decide) (by decide) (by decide)
  preset3 := Preset.wellFormed_of_slope (by decide) (by decide) (by decide) (by decide) (by decide)
  settleTenMs := by decide
  widthsFit := by decide

end Sys2Proof

namespace Sys2Proof.Machine

/-! ## The stimulus queue -/

/-- The queue gives the cycle its levels: it is empty, or its first word has cycles to go (30_encoding.md R62). -/
abbrev State.StimReady (s : State) : Prop := ∀ w rest, s.stim = w :: rest → w.count ≠ 0#28

theorem takeInputs_cons {s : State} {w : StimWord} {rest : List StimWord} (h : s.stim = w :: rest)
    (hw : w.count ≠ 0#28) :
    takeInputs s = .ok (w.levels, { s with stim := popCycle w rest, tick := s.tick + 1 }) := by
  rw [takeInputs, h]
  exact if_pos hw

theorem exists_takeInputs_eq_ok {s : State} (h : s.StimReady) : ∃ lv s', takeInputs s = .ok (lv, s') := by
  cases hstim : s.stim with
  | nil => exact ⟨Config.lineLevels s.tick, s.setTick (s.tick + 1), by rw [takeInputs, hstim]⟩
  | cons w rest => exact ⟨_, _, takeInputs_cons hstim (h w rest hstim)⟩

theorem takeInputs_countZero {s : State} {w : StimWord} {rest : List StimWord} (h : s.stim = w :: rest)
    (hw : w.count = 0#28) : takeInputs s = .error .stimulusCountZero := by
  rw [takeInputs, h]
  exact if_neg (not_not_intro hw)

/-- A word of count n + 1 with one cycle less to go is the word of count n. -/
theorem oneLess_make {n : Nat} (lv : Inputs) :
    oneLess (StimWord.make (BitVec.ofNat 28 (n + 1)) lv) = StimWord.make (BitVec.ofNat 28 n) lv := by
  have hcount : BitVec.ofNat 28 (n + 1) - 1#28 = BitVec.ofNat 28 n := by
    rw [BitVec.ofNat_add, BitVec.add_sub_cancel]
  rw [oneLess, StimWord.count_make, StimWord.levels_make, hcount]

theorem popCycle_make {n : Nat} (lv : Inputs) (rest : List StimWord) (hn : n + 1 < 2 ^ 28) :
    popCycle (StimWord.make (BitVec.ofNat 28 (n + 1)) lv) rest =
      if n = 0 then rest else StimWord.make (BitVec.ofNat 28 n) lv :: rest := by
  have hone : BitVec.ofNat 28 (n + 1) = 1#28 ↔ n = 0 := by
    rw [← BitVec.toNat_inj, BitVec.toNat_ofNat, BitVec.toNat_ofNat]
    omega
  simp only [popCycle, StimWord.count_make, hone, oneLess_make]

/-! ## What a step answers -/

theorem step_of_takeInputs {s s' : State} {lv : Inputs} (h : takeInputs s = .ok (lv, s')) : step s = cycle lv s' := by
  rw [step, h]

theorem takeInputs_cfg {s s' : State} {lv : Inputs} (h : takeInputs s = .ok (lv, s')) : s'.cfg = s.cfg := by
  rw [takeInputs_frame s s' lv h]

theorem exists_cycle_eq_next (lv : Inputs) {s : State} (hw : s.cfg.WellFormed) : ∃ t, cycle lv s = .next t :=
  ⟨_, (cycle_next_iff lv s _).mpr ⟨hw, rfl⟩⟩

theorem exists_step_eq_next {s : State} (hw : s.cfg.WellFormed) (h : s.StimReady) : ∃ t, step s = .next t := by
  obtain ⟨lv, s', hinp⟩ := exists_takeInputs_eq_ok h
  rw [step_of_takeInputs hinp]
  exact exists_cycle_eq_next lv ((takeInputs_cfg hinp).symm ▸ hw)

theorem step_illFormed {s : State} (hw : ¬ s.cfg.WellFormed) (h : s.StimReady) :
    step s = .refused .configIllFormed := by
  obtain ⟨lv, s', hinp⟩ := exists_takeInputs_eq_ok h
  rw [step_of_takeInputs hinp]
  exact cycle_illFormed lv s' ((takeInputs_cfg hinp).symm ▸ hw)

theorem step_countZero {s : State} (h : ¬ s.StimReady) : step s = .refused .stimulusCountZero := by
  simp only [State.StimReady, not_forall, not_not] at h
  obtain ⟨w, rest, hstim, hcount⟩ := h
  rw [step, takeInputs_countZero hstim hcount]

/-! ## What no operation writes -/

/-- The loop head writes neither the configuration nor the preset index nor the latches. -/
theorem LoopHead.frame {j : Nat} {s t : State} (h : LoopHead j s t) :
    t.cfg = s.cfg ∧ t.pidx = s.pidx ∧ t.tcLatched = s.tcLatched ∧ t.stepLatched = s.stepLatched := by
  cases h <;> exact ⟨rfl, rfl, rfl, rfl⟩

theorem SeqTurn.cfg {lv : Inputs} {u t : State} (h : SeqTurn lv u t) : t.cfg = u.cfg := by
  cases h with
  | rampBegin _ _ hloop | skipOffPhase _ _ _ hloop | rampOffEnd _ _ hloop =>
    obtain ⟨hcfg, -⟩ := hloop.frame
    exact hcfg
  | _ => rfl

theorem step_cfg {s t : State} (h : step s = .next t) : t.cfg = s.cfg :=
  step_keeps (P := fun t => t.cfg = s.cfg) (fun _ _ _ h => h) (fun _ _ h => h)
    (fun _ _ _ _ hcfg hturn => hturn.cfg.trans hcfg) h rfl

/-! ## What the latch turn can write -/

/-- The latch makes two transitions, on an edge in Off and in On, and no other (41_edge_latch.md R80 to R84). -/
theorem latchMs_cases (edge : Bool) (m : MotorState) :
    latchMs edge m = m ∨ (edge = true ∧ m = .off ∧ latchMs edge m = .rampingUp) ∨
      (edge = true ∧ m = .on ∧ latchMs edge m = .pendingOff) := by
  cases edge <;> cases m <;> simp [latchMs]

/-- The selected latch operation, applied to the registers it was selected on. -/
theorem effect_latchOp (lv : Inputs) (s : State) (hw : s.cfg.WellFormed) :
    effect (latchOp lv s) s = { s with ms := latchMs (edgeDetect s.rampPrev lv.rampN) s.ms } := by
  have hsame : ∀ m, m = s.ms → s = { s with ms := m } := by
    rintro m rfl
    rfl
  rw [latchOp_eq]
  cases edgeDetect s.rampPrev lv.rampN with
  | false => exact effect_latchIdle s hw
  | true =>
    cases hms : s.ms with
    | off => exact effect_irqStart s hw
    | on => exact effect_irqStop s hw
    | rampingUp | pendingOff => exact (effect_irqNop s hw).trans (hsame _ hms.symm)

/-! ## The statements -/

/-- Settles O7: the latch turn leaves `afterLatch`, and the sequencer operation is selected on it. -/
theorem stepRunsSelectedOperations : Obligations.StepRunsSelectedOperations := by
  intro s s' lv hw hinp
  have hw' : s'.cfg.WellFormed := (takeInputs_cfg hinp).symm ▸ hw
  have hlatch : latchOp lv s' = decodeLsel (BitVec.ofBool (s.rampPrev && !lv.rampN) ++ s.ms.toBits) := by
    rw [takeInputs_frame s s' lv hinp]
    rfl
  rw [step_of_takeInputs hinp, ← hlatch]
  refine ⟨exists_cycle_eq_next lv hw', cycle_reset lv s', fun hrst => ⟨afterLatch lv s', ?latch, ?sequencer⟩⟩
  case latch => exact exec_of_effect (s := s'.sampleRamp lv) hw' (latch_effect lv s' hw')
  case sequencer =>
    rw [cycle_eq_seq lv s' hw' hrst]
    exact (exec_wf _ (afterLatch lv s') hw').symm

/-- Settles O8: the step takes the levels of the first word and leaves it with one cycle less to go. -/
theorem stimulusWordGivesLevels : Obligations.StimulusWordGivesLevels := by
  intro s n lv rest hn hstim
  have hcount : StimWord.count (StimWord.make (BitVec.ofNat 28 (n + 1)) lv) ≠ 0#28 := by
    rw [StimWord.count_make, ne_eq, ← BitVec.toNat_inj, BitVec.toNat_ofNat, BitVec.toNat_ofNat]
    omega
  rw [step_of_takeInputs (takeInputs_cons hstim hcount), StimWord.levels_make, popCycle_make lv rest hn]

/-- Settles O9: the queue gives the levels, and a cycle answers under a well-formed configuration. -/
theorem stepIsTotal : Obligations.StepIsTotal := fun _ hw hready => exists_step_eq_next hw hready

/-- Settles O10: the queue not ready, the configuration ill-formed, and neither, are answered by three different
outcomes. -/
theorem stepRefusalsNamed : Obligations.StepRefusalsNamed := by
  intro s
  have hzero : (∃ w rest, s.stim = w :: rest ∧ w.count = 0#28) ↔ ¬ s.StimReady := by
    simp only [State.StimReady, not_forall, not_not, exists_prop]
  rw [hzero]
  by_cases hready : s.StimReady
  · by_cases hw : s.cfg.WellFormed
    · obtain ⟨t, ht⟩ := exists_step_eq_next hw hready
      rw [ht]
      exact ⟨⟨nofun, fun h => absurd hready h⟩, nofun, fun ⟨h, _⟩ => absurd hw h⟩
    · rw [step_illFormed hw hready]
      exact ⟨⟨nofun, fun h => absurd hready h⟩, fun _ => ⟨hw, hready⟩, fun _ => rfl⟩
  · rw [step_countZero hready]
    exact ⟨⟨fun _ => hready, fun _ => rfl⟩, nofun, fun ⟨_, h⟩ => absurd h hready⟩

/-- Settles O11: the configuration, which holds the table, is kept by the latch, the sequencer and `RESET`. -/
theorem presetTableImmutable : Obligations.PresetTableImmutable := fun _ _ h =>
  ⟨step_cfg h, fun p => congrArg (Cfg.presetRead · p) (step_cfg h)⟩

/-- Settles O12: the four reserved fields one after the other, and then the check, which says what it checks. -/
theorem loaderChecksConfiguration : Obligations.LoaderChecksConfiguration := by
  intro clk per wT wI d0 d1 d2 d3 w0 w1 w2 w3 c answer
  have hanswer : answer = if w0.reserved ≠ 0#8 then .error (.presetReserved 0#2)
      else if w1.reserved ≠ 0#8 then .error (.presetReserved 1#2)
      else if w2.reserved ≠ 0#8 then .error (.presetReserved 2#2)
      else if w3.reserved ≠ 0#8 then .error (.presetReserved 3#2)
      else if c.check then .ok c else .error .configIllFormed := rfl
  by_cases h0 : w0.reserved = 0#8
  case neg => simp [hanswer, h0]
  by_cases h1 : w1.reserved = 0#8
  case neg => simp [hanswer, h0, h1]
  by_cases h2 : w2.reserved = 0#8
  case neg => simp [hanswer, h0, h1, h2]
  by_cases h3 : w3.reserved = 0#8
  case neg => simp [hanswer, h0, h1, h2, h3]
  by_cases hw : c.WellFormed
  case neg => simp [hanswer, h0, h1, h2, h3, Cfg.check_iff, hw]
  have hok : answer = .ok c := by simp [hanswer, h0, h1, h2, h3, Cfg.check_iff, hw]
  refine ⟨fun _ _ _ _ => ⟨fun _ => hok, fun h => absurd hw h⟩, by simp [h0, h1, h2, h3], fun a ha => ?_⟩
  obtain rfl : c = a := Except.ok.inj (hok.symm.trans ha)
  exact ⟨hw, rfl, rfl, rfl, rfl, rfl, rfl⟩

/-- Settles O30: the reset state is what `RESET` leaves, and start-up makes the check that every operation makes. -/
theorem resetStateIsSafe : Obligations.ResetStateIsSafe := by
  have hsafe (s : State) : s.clear.Inv ∧ s.clear.LedsTrackRamp ∧ s.clear.FitsWidths :=
    ⟨s.clear_inv, State.ledsTrackRamp_of_not_inRamp (by simp [State.InRamp, State.clear]), s.clear_fitsWidths⟩
  refine ⟨fun s hw => ?reset, fun c hw => ⟨?booted, hsafe (State.resetWith c)⟩, fun c hw => ?refused, rfl,
    ref_wellFormed, State.reset.clear_inv⟩
  case reset =>
    obtain ⟨hinv, hled, hfits⟩ := hsafe s
    exact ⟨s.clear, exec_reset s hw, hinv, hled, hfits, rfl⟩
  case booted => exact if_pos ((Cfg.check_iff c).mpr hw)
  case refused => exact if_neg fun h => hw ((Cfg.check_iff c).mp h)

/-- Settles O35: the latch table makes two transitions, and the sequencer table has no `RESET` row. -/
theorem agentsWriteTheirOwn : Obligations.AgentsWriteTheirOwn := by
  refine fun s lv hw => ⟨⟨_, exec_of_effect hw (effect_latchOp lv s hw), ?_⟩, _, exec_wf _ s hw,
    effect_rampPrev (decodeSsel_ne_reset _) s hw⟩
  obtain h | ⟨-, h⟩ | ⟨-, h⟩ := latchMs_cases (edgeDetect s.rampPrev lv.rampN) s.ms
  · exact .inl h
  · exact .inr (.inl h)
  · exact .inr (.inr h)

/-- Settles O39: after reset the edge memory is 0 and the block is in Off and `DISPATCH`. -/
theorem firstCycleAfterReset : Obligations.FirstCycleAfterReset := by
  refine fun s lv hw hrst => ⟨s.clear, exec_reset s hw, latchOp_of_rampPrev_false lv rfl, ?_, cycle_clear lv s hw hrst⟩
  rw [seqOp_eq]
  rfl

end Sys2Proof.Machine

/-!
Operations of one row each: the waiting cycle, the start of the PendingOff settle, the end of an on-phase, and the
threshold comparators the loop head reads.
-/
namespace Sys2Proof

/-- Comparator k of a well-formed preset gives 1 from k fifths of the ramp on (44_ramp_engine.md R133). -/
theorem Preset.WellFormed.hit_iff {period : Nat} {r : Preset} (h : r.WellFormed period) (k : Fin 4) (i : Nat) :
    r.hit i k = true ↔ (k.val + 1) * r.n ≤ 5 * i := by
  rw [Preset.hit, decide_eq_true_iff, h.threshold_eq k, ceilFifth_le_iff, Nat.mul_comm]

/-- More fifths of the ramp are no fewer steps (44_ramp_engine.md R133). -/
theorem ceilFifth_mono (n : Nat) {k l : Nat} (h : k ≤ l) : ceilFifth n k ≤ ceilFifth n l :=
  Nat.div_le_div_right (Nat.add_le_add_right (Nat.mul_le_mul_left n h) 4)

end Sys2Proof

namespace Sys2Proof.Machine

/-- Settles O21: the five waiting operations have the one effect `State.countDown`. -/
theorem waitCountsDown : Obligations.WaitCountsDown := by
  refine ⟨fun _ => decodeSsel_of_row rfl, fun _ => decodeSsel_of_row rfl, fun _ => decodeSsel_of_row rfl,
    fun _ => decodeSsel_of_row rfl, fun _ => decodeSsel_of_row rfl, fun s hw => ⟨natSub s.timer 1, fun htimer => ?value,
      exec_of_effect hw (effect_tcWait s hw), exec_of_effect hw (effect_stepWait s hw),
      exec_of_effect hw (effect_poffWait s hw), exec_of_effect hw (effect_rampOnWait s hw),
      exec_of_effect hw (effect_rampOffWait s hw)⟩⟩
  case value => exact natSub_of_le s.timer 1 (Nat.one_le_iff_ne_zero.mpr htimer)

/-- Settles O24: the settle delay of a well-formed configuration, and no other write. -/
theorem poffRelStartsSettle : Obligations.PoffRelStartsSettle :=
  ⟨fun _ => decodeSsel_of_row rfl, fun s hw =>
    exec_of_effect hw ((effect_poffRel s hw).trans (s.startDelay_settle .poffSettle hw))⟩

/-- Settles O26: the off-time decides between the off-phase and the loop head for the next step. -/
theorem rampOnEndStartsOffPhase : Obligations.RampOnEndStartsOffPhase := by
  refine ⟨fun _ => decodeSsel_of_row rfl, fun s hw => ⟨s.preset.offTicks s.cfg.period s.i, fun hle => ?value,
    fun hoff => ?offPhase, fun hoff hn => ?exit, fun hoff hn => ?nextCycle⟩⟩
  case value => exact natSub_of_le s.cfg.period (s.preset.onTicks s.i) hle
  case offPhase => exact exec_of_effect hw ((effect_rampOnEnd s hw).trans (s.endOnPhase_of_ne_zero hoff))
  case exit =>
    have hskip := (effect_rampOnEnd s hw).trans (hoff ▸ s.endOnPhase_zero)
    exact exec_of_effect hw (hskip.trans (State.beginCycle_exit (s.i + 1) s hn))
  case nextCycle =>
    obtain ⟨hon, -⟩ := s.onTicks_bounds hw (s.i + 1) (Nat.le_add_left 1 s.i) hn
    have hskip := (effect_rampOnEnd s hw).trans (hoff ▸ s.endOnPhase_zero)
    exact ⟨ledStagger s.preset (s.i + 1) s.led, ledStagger_bit_zero s.preset (s.i + 1) s.led,
      ledStagger_bit_succ s.preset (s.i + 1) s.led,
      exec_of_effect hw (hskip.trans (State.beginCycle_cycle (s.i + 1) s hn hon))⟩

/-- Settles O29: WF4 stores each threshold as a ceiling of fifths. -/
theorem comparatorsAtFifths : Obligations.ComparatorsAtFifths := by
  refine fun c p hw => ?_
  have hr := Cfg.WellFormed.presetRead c hw p
  obtain ⟨h1, h2, h3, h4⟩ := hr.thresholdsExact
  rw [h1, h2, h3, h4]
  exact ⟨hr.hit_iff, ceilFifth_mono _ (by decide), ceilFifth_mono _ (by decide), ceilFifth_mono _ (by decide)⟩

end Sys2Proof.Machine

/-!
Rules of the whole machine, read off one cycle: the six transitions of the motor state (43_motor_state.md R110), the
indicators (10_state.md R16), and what the lines can and cannot influence (20_memory.md R37, 44_ramp_engine.md R143).
-/
namespace Sys2Proof.Machine

/-! ## What a turn does to motor state and outputs -/

/-- The motor state and the outputs over one turn of the sequencer: they stay, the ramp drives them, or one of the
transitions T2, T4, T5 and T6 is made (43_motor_state.md R110). -/
inductive MotorTurn (u t : State) : Prop
  | keep (hms : t.ms = u.ms) (hled : t.led = u.led) (hmotor : t.motor = u.motor)
  | ramp (hms : u.ms = .rampingUp) (hms' : t.ms = .rampingUp) (hph : u.ph = .dispatch ∨ u.InRamp)
  | rampEnd (hms : u.ms = .rampingUp) (hms' : t.ms = .on) (hmotor : t.motor = true) (hn : u.preset.n ≤ t.i)
      (hph : u.InRamp ∨ u.ph = .dispatch ∧ t.i = 1)
  | poffFire (hms : u.ms = .pendingOff) (hms' : t.ms = .off) (hph : u.ph = .poffSettle) (htimer : u.timer = 0)
      (hled : t.led = ledNone) (hmotor : t.motor = false)
  | stepOn (hms : u.ms = .off) (hms' : t.ms = .on) (hph : u.ph = .stepSettle) (htimer : u.timer = 0)
      (hled : t.led = ledAll) (hmotor : t.motor = true)
  | stepOff (hms : u.ms = .on) (hms' : t.ms = .off) (hph : u.ph = .stepSettle) (htimer : u.timer = 0)
      (hled : t.led = ledNone) (hmotor : t.motor = false)

/-- The loop head goes on with the ramp or makes the transition T2. -/
theorem LoopHead.motorTurn {j : Nat} {u v t : State} (h : LoopHead j v t) (hpreset : v.preset = u.preset)
    (hv : v.ms = .rampingUp) (hu : u.ms = .rampingUp) (hph : u.InRamp ∨ u.ph = .dispatch ∧ j = 1) : MotorTurn u t := by
  cases h with
  | exit hn => exact .rampEnd hu rfl rfl (hpreset ▸ hn) hph
  | pwm => exact .ramp hu hv (hph.symm.imp_left And.left)

theorem SeqTurn.motorTurn {lv : Inputs} {u t : State} (h : SeqTurn lv u t) (hinv : u.Inv) : MotorTurn u t := by
  cases h with
  | rampBegin hph hms hloop => exact hloop.motorTurn rfl hms hms (.inr ⟨hph, rfl⟩)
  | offPhase hph =>
    obtain ⟨hms, -⟩ := hinv.inRamp (.inl hph)
    exact .ramp hms hms (.inr (.inl hph))
  | skipOffPhase hph _ _ hloop =>
    obtain ⟨hms, -⟩ := hinv.inRamp (.inl hph)
    exact hloop.motorTurn rfl hms hms (.inl (.inl hph))
  | rampOffEnd hph _ hloop =>
    obtain ⟨hms, -⟩ := hinv.inRamp (.inr hph)
    exact hloop.motorTurn rfl hms hms (.inl (.inr hph))
  | poffFire hph htimer =>
    obtain ⟨-, -, -, hpoff, -⟩ := hinv
    exact .poffFire (hpoff hph) rfl hph htimer rfl rfl
  | stepFireOn hph htimer hms => exact .stepOn hms rfl hph htimer rfl rfl
  | stepFireOff hph htimer hms => exact .stepOff hms rfl hph htimer rfl rfl
  | _ => exact .keep rfl rfl rfl

/-- Settles O34: a turn on the motor state the latch left, which is the old one or the target of T1 or T3. -/
theorem sixTransitions : Obligations.SixTransitions := by
  intro s t lv hinv hrst hcycle
  obtain ⟨hw, hturn⟩ := turn_of_cycle hrst hcycle
  have hmotor := hturn.motorTurn (afterLatch_inv lv hinv)
  have hnotRamp (hms : s.ms = .off) : ¬ s.InRamp := fun hr => by
    obtain ⟨h, -⟩ := hinv.inRamp hr
    cases hms.symm.trans h
  obtain hsame | ⟨hedge, hoff, hup⟩ | ⟨hedge, hon, hpending⟩ := latchMs_cases (edgeDetect s.rampPrev lv.rampN) s.ms
  · have hms1 : (afterLatch lv s).ms = s.ms := hsame
    rw [← hms1]
    cases hmotor with
    | keep hms hled hmotor => exact .inl ⟨hms, .inl ⟨hled, hmotor⟩⟩
    | ramp hms hms' => exact .inl ⟨hms'.trans hms.symm, .inr hms⟩
    | rampEnd hms hms' hmotor hn => exact .inr (.inr (.inl ⟨hms, hms', hmotor, hn⟩))
    | poffFire hms hms' hph htimer hled hmotor =>
      exact .inr (.inr (.inr (.inr (.inl ⟨hms, hms', hph, htimer, hled, hmotor⟩))))
    | stepOn hms hms' hph htimer hled hmotor =>
      exact .inr (.inr (.inr (.inr (.inr (.inl ⟨hms, hms', hph, htimer, hled, hmotor⟩)))))
    | stepOff hms hms' hph htimer hled hmotor =>
      exact .inr (.inr (.inr (.inr (.inr (.inr (.inl ⟨hms, hms', hph, htimer, hled, hmotor⟩))))))
  · have hms1 : (afterLatch lv s).ms = .rampingUp := hup
    obtain ⟨hprev, hnow⟩ : s.rampPrev = true ∧ lv.rampN = false := by simpa [edgeDetect] using hedge
    cases hmotor with
    | keep hms hled hmotor =>
      exact .inr (.inl ⟨hoff, hms.trans hms1, hprev, hnow, fun _ => ⟨hled, hmotor⟩⟩)
    | ramp _ hms' hph =>
      have hdispatch : s.ph = .dispatch := hph.resolve_right (hnotRamp hoff)
      exact .inr (.inl ⟨hoff, hms', hprev, hnow, fun h => absurd hdispatch h⟩)
    | rampEnd _ hms' hmotor hn hph =>
      obtain ⟨hdispatch, hi⟩ := hph.resolve_left (hnotRamp hoff)
      have hstep : 1 ≤ s.preset.n := (Cfg.WellFormed.presetRead s.cfg hw s.pidx).hasStep
      have hone : s.preset.n = 1 := le_antisymm (hi ▸ hn) hstep
      exact .inr (.inr (.inr (.inr (.inr (.inr (.inr ⟨hoff, hms', hprev, hnow, hdispatch, hone, hmotor⟩))))))
    | poffFire hms | stepOn hms | stepOff hms => cases hms1.symm.trans hms
  · have hms1 : (afterLatch lv s).ms = .pendingOff := hpending
    obtain ⟨hprev, hnow⟩ : s.rampPrev = true ∧ lv.rampN = false := by simpa [edgeDetect] using hedge
    cases hmotor with
    | keep hms hled hmotor =>
      exact .inr (.inr (.inr (.inl ⟨hon, hms.trans hms1, hprev, hnow, hled, hmotor⟩)))
    | poffFire _ _ hph =>
      obtain ⟨-, -, -, hpoff, -⟩ := hinv
      cases hon.symm.trans (hpoff hph)
    | ramp hms | rampEnd hms | stepOn hms | stepOff hms => cases hms1.symm.trans hms

/-! ## The indicators -/

/-- The loop head clears no indicator (44_ramp_engine.md R134). -/
theorem LoopHead.led_mono {j : Nat} {s t : State} (h : LoopHead j s t) {k : Nat} (hk : s.led.getLsbD k = true) :
    t.led.getLsbD k = true := by
  cases h with
  | exit => exact hk
  | pwm => rw [BitVec.getLsbD_or, hk, Bool.true_or]

/-- The begin of a ramp clears no indicator (44_ramp_engine.md R135). -/
theorem ledBegin_mono {led : BitVec 5} {k : Nat} (hk : led.getLsbD k = true) : (ledBegin led).getLsbD k = true := by
  rw [ledBegin, BitVec.getLsbD_or, hk, Bool.true_or]

/-- Settles O37: the loop head and LED0 only assert; of the three operations that write the whole bank one asserts it
and two clear it, with the motor, in the transition to Off. -/
theorem indicatorsClearOnlyTogether : Obligations.IndicatorsClearOnlyTogether := by
  intro s t lv hrst hcycle
  obtain ⟨-, hturn⟩ := turn_of_cycle hrst hcycle
  cases hturn with
  | rampBegin _ _ hloop => exact .inl fun k hk => hloop.led_mono (ledBegin_mono hk)
  | skipOffPhase _ _ _ hloop | rampOffEnd _ _ hloop => exact .inl fun k hk => hloop.led_mono hk
  | stepFireOn => exact .inl fun k hk => ledAll_bit (BitVec.lt_of_getLsbD hk)
  | stepFireOff | poffFire => exact .inr ⟨rfl, rfl, rfl⟩
  | _ => exact .inl fun _ hk => hk

/-! ## The lines -/

/-- The sequencer looks at a line in `DISPATCH`, `TC` and `STEP` only (30_encoding.md R57). -/
theorem seqOp_congr {lv lv' : Inputs} {s : State} (hramp : s.ph = .dispatch → lv.rampN = lv'.rampN)
    (htc : s.ph = .tc → lv.tcN = lv'.tcN) (hstep : s.ph = .step → lv.stepN = lv'.stepN) :
    seqOp lv s = seqOp lv' s := by
  simp only [seqOp_eq]
  cases hph : s.ph with
  | dispatch => simp only [phaseLine, lineRead, hramp hph]
  | tc => simp only [phaseLine, lineRead, htc hph]
  | step => simp only [phaseLine, lineRead, hstep hph]
  | tcSettle | stepSettle | poffSettle | rampOn | rampOff => rfl

/-- Settles O38: the latch turn samples the ramp-start line alone. -/
theorem linesUsedOnlyWhenPolled : Obligations.LinesUsedOnlyWhenPolled := by
  intro s lv lv' hw hrst hramp htc hstep
  have hlatch : afterLatch lv s = afterLatch lv' s := by rw [afterLatch, afterLatch, hramp]
  have hop : seqOp lv (afterLatch lv' s) = seqOp lv' (afterLatch lv' s) := seqOp_congr (fun _ => hramp) htc hstep
  cases hr : lv'.rst with
  | true =>
    exact ⟨s.clear, (cycle_reset lv s (hrst.trans hr)).trans (exec_reset s hw),
      (cycle_reset lv' s hr).trans (exec_reset s hw)⟩
  | false =>
    refine ⟨_, cycle_eq_seq lv s hw (hrst.trans hr), ?_⟩
    rw [cycle_eq_seq lv' s hw hr, hlatch, hop]

/-! ## A ramp in progress -/

/-- The loop head does not read the edge memory. -/
theorem State.beginCycle_setRampPrev (j : Nat) (v : Bool) (s : State) :
    (s.setRampPrev v).beginCycle j = (s.beginCycle j).setRampPrev v :=
  (apply_ite (State.setRampPrev v) (s.preset.n ≤ j) ((s.setI j).finishRamp) ((s.setI j).startPwm j)).symm

/-- The end of an on-phase does not read the edge memory. -/
theorem State.endOnPhase_setRampPrev (off : Nat) (v : Bool) (s : State) :
    (s.setRampPrev v).endOnPhase off = (s.endOnPhase off).setRampPrev v := by
  by_cases hoff : off = 0
  · rw [hoff, State.endOnPhase_zero, State.endOnPhase_zero]
    exact s.beginCycle_setRampPrev (s.i + 1) v
  · rw [State.endOnPhase_of_ne_zero _ hoff, State.endOnPhase_of_ne_zero _ hoff]
    rfl

/-- No operation reads the edge memory: the cycle itself does (40_cycle_step.md R71). -/
theorem effect_setRampPrev {i : Instr} (hi : i ≠ .reset) (v : Bool) (s : State) (hw : s.cfg.WellFormed) :
    effect i (s.setRampPrev v) = (effect i s).setRampPrev v := by
  cases i with
  | reset => exact absurd rfl hi
  | rampBegin =>
    rw [effect_rampBegin (s.setRampPrev v) hw, effect_rampBegin s hw]
    exact (s.setLed (ledBegin s.led)).beginCycle_setRampPrev 1 v
  | rampOnEnd =>
    rw [effect_rampOnEnd (s.setRampPrev v) hw, effect_rampOnEnd s hw]
    exact s.endOnPhase_setRampPrev _ v
  | rampOffEnd =>
    rw [effect_rampOffEnd (s.setRampPrev v) hw, effect_rampOffEnd s hw]
    exact s.beginCycle_setRampPrev (s.i + 1) v
  | latchIdle | irqNop => rw [effect_of_wf _ (s.setRampPrev v) _ rfl hw, effect_of_wf _ s _ rfl hw]
  | _ =>
    rw [effect_of_wf _ (s.setRampPrev v) _ rfl hw, effect_of_wf _ s _ rfl hw]
    rfl

/-- A turn in a ramp goes on with it or completes it, and concerns neither preset nor buttons (44_ramp_engine.md
R143). -/
theorem SeqTurn.inRamp {lv : Inputs} {u t : State} (h : SeqTurn lv u t) (hinv : u.Inv) (hr : u.InRamp) :
    t.pidx = u.pidx ∧ t.tcLatched = u.tcLatched ∧ t.stepLatched = u.stepLatched ∧
      ((t.InRamp ∧ t.ms = .rampingUp) ∨ (t.ph = .tc ∧ t.ms = .on ∧ t.motor = true ∧ t.i = u.preset.n)) := by
  obtain ⟨hms, -, -, hn⟩ := hinv.inRamp hr
  have hhead (hloop : LoopHead (u.i + 1) u t) : (t.InRamp ∧ t.ms = .rampingUp) ∨
      (t.ph = .tc ∧ t.ms = .on ∧ t.motor = true ∧ t.i = u.preset.n) := by
    cases hloop with
    | exit hend => exact .inr ⟨rfl, rfl, rfl, le_antisymm hn hend⟩
    | pwm => exact .inl ⟨.inl rfl, hms⟩
  cases h with
  | wait => exact ⟨rfl, rfl, rfl, .inl ⟨hr, hms⟩⟩
  | offPhase => exact ⟨rfl, rfl, rfl, .inl ⟨.inr rfl, hms⟩⟩
  | skipOffPhase _ _ _ hloop | rampOffEnd _ _ hloop =>
    obtain ⟨-, hpidx, htc, hstep⟩ := hloop.frame
    exact ⟨hpidx, htc, hstep, hhead hloop⟩
  | dispIdle hph | rampBegin hph | poffHeld hph | poffRel hph | tcPress hph | tcHeld hph | tcRelease hph | tcFire hph
  | stepPress hph | stepHeld hph | stepRelease hph | stepFireOn hph | stepFireOff hph | stepFireNop hph
  | poffFire hph => simp [State.InRamp, hph] at hr

/-- The sequencer's turn in a ramp, where it looks at no line. -/
def State.rampTurn (s : State) : State := effect (seqOp default s) s

/-- In a ramp all inputs without reset lead to one state, but for the edge memory (44_ramp_engine.md R143). -/
theorem cycle_inRamp {lv : Inputs} {s : State} (hw : s.cfg.WellFormed) (hms : s.ms = .rampingUp) (hr : s.InRamp)
    (hrst : lv.rst = false) : cycle lv s = .next (s.rampTurn.setRampPrev lv.rampN) := by
  obtain ⟨hdispatch, htc, hstep⟩ : s.ph ≠ .dispatch ∧ s.ph ≠ .tc ∧ s.ph ≠ .step := by
    obtain h | h := hr <;> simp [h]
  have hlatch : afterLatch lv s = s.setRampPrev lv.rampN := afterLatch_of_requested lv (.inl hms)
  have hop : seqOp lv (s.setRampPrev lv.rampN) = seqOp default s :=
    seqOp_congr (lv' := default) (s := s.setRampPrev lv.rampN) (absurd · hdispatch) (absurd · htc) (absurd · hstep)
  rw [cycle_eq_seq lv s hw hrst, hlatch, hop]
  exact congrArg _ (effect_setRampPrev (i := seqOp default s) (decodeSsel_ne_reset _) lv.rampN s hw)

/-- Settles O36: in RampingUp the latch turn only samples the line, and in a ramp the sequencer looks at none. -/
theorem rampIsNotPreempted : Obligations.RampIsNotPreempted := by
  intro s hw hinv hr
  obtain ⟨hms, -⟩ := hinv.inRamp hr
  exact ⟨s.rampTurn, fun _ hrst => cycle_inRamp hw hms hr hrst, (seqTurn default hw).inRamp hinv hr⟩

end Sys2Proof.Machine

/-!
Runs of cycles under arbitrary input levels (10_state.md R19, 42_debounce.md R101, 43_motor_state.md R111 to R119): from
a press, or a request, to its effect, and what a held line cannot do however long it is held.
-/
namespace Sys2Proof.Machine

/-! ## The edge latch over a run -/

/-- The latch turns of a run write the motor state and the edge memory alone (41_edge_latch.md R80). -/
theorem exists_latchRun_eq (lvs : List Inputs) (s : State) :
    ∃ m prev, latchRun lvs s = { s with ms := m, rampPrev := prev } := by
  induction lvs generalizing s with
  | nil => exact ⟨s.ms, s.rampPrev, rfl⟩
  | cons lv rest ih =>
    obtain ⟨m, prev, h⟩ := ih (afterLatch lv s)
    exact ⟨m, prev, h⟩

/-- With a ramp or a shutdown requested a run of latch turns only samples the line (41_edge_latch.md R83). -/
theorem exists_latchRun_of_requested (lvs : List Inputs) {s : State} (hm : s.ms = .rampingUp ∨ s.ms = .pendingOff) :
    ∃ prev, latchRun lvs s = { s with rampPrev := prev } := by
  induction lvs generalizing s with
  | nil => exact ⟨s.rampPrev, rfl⟩
  | cons lv rest ih =>
    rw [latchRun_cons, afterLatch_of_requested lv hm]
    exact ih hm

/-- An inactive line is no edge. -/
theorem afterLatch_of_inactive {lv : Inputs} (s : State) (h : lv.rampN = true) :
    afterLatch lv s = { s with rampPrev := true } := by
  rw [afterLatch, h, edgeDetect, Bool.not_true, Bool.and_false]
  rfl

theorem latchRun_of_inactive {lv : Inputs} {rest : List Inputs} (s : State) (h : RampLineInactive (lv :: rest)) :
    latchRun (lv :: rest) s = { s with rampPrev := true } := by
  obtain ⟨hlv, hrest⟩ := List.forall_mem_cons.mp h
  rw [latchRun_cons, afterLatch_of_inactive s hlv]
  exact latchRun_of_steady hrest

/-! ## Timed phases -/

/-- Up to `timer` cycles of a timed phase are latch turns and the count (10_state.md R19). -/
theorem runCycles_of_waiting {lvs : List Inputs} {s : State} (hw : s.cfg.WellFormed) (hph : s.ph.Timed)
    (hrst : NoReset lvs) (hlen : lvs.length ≤ s.timer) :
    runCycles lvs s = .next ((latchRun lvs s).setTimer (s.timer - lvs.length)) := by
  induction lvs generalizing s with
  | nil => rfl
  | cons lv rest ih =>
    obtain ⟨hrstLv, hrstRest⟩ := List.forall_mem_cons.mp hrst
    rw [List.length_cons] at hlen ⊢
    have htimer : s.timer ≠ 0 := by omega
    have hwait : effect (seqOp lv (afterLatch lv s)) (afterLatch lv s) = (afterLatch lv s).setTimer (s.timer - 1) :=
      effect_seqOp_of_timed lv hw hph htimer
    have hrest := ih (s := (afterLatch lv s).setTimer (s.timer - 1)) hw hph hrstRest
      (Nat.le_sub_of_add_le hlen)
    rw [runCycles_cons lv rest s _ ((cycle_eq_seq lv s hw hrstLv).trans (congrArg _ hwait)), hrest,
      latchRun_comm (State.setTimer (s.timer - 1)) (fun _ _ => rfl), Nat.add_comm, ← Nat.sub_sub]
    rfl

/-- Settles O42: the latch turns write `ms` and the edge memory, and the sequencer counts. -/
theorem timedPhaseWaits : Obligations.TimedPhaseWaits := by
  intro s lvs hw hph hrst hlen
  obtain ⟨m, prev, hlatch⟩ := exists_latchRun_eq lvs s
  refine ⟨_, runCycles_of_waiting hw hph hrst hlen, ?_⟩
  rw [hlatch]
  rfl

/-! ## Presses -/

/-- Settles O43: the press and its event, with the latch turns of the whole run. -/
theorem tcPressFiresAfterSettle : Obligations.TcPressFiresAfterSettle := by
  intro s lv rest hw hph hlat hline hrst hlen
  obtain ⟨m, prev, hlatch⟩ := exists_latchRun_eq (lv :: rest) s
  refine ⟨_, runCycles_tcPress hw hph hlat hline hrst hlen, ?_⟩
  rw [hlatch]

/-- A Step press fires `SETTLE` cycles later, whatever the lines do in between, by the motor state the latch has left
(42_debounce.md R99, R101). -/
theorem runCycles_stepPress {lv : Inputs} {rest : List Inputs} {s : State} {i : Instr} (hw : s.cfg.WellFormed)
    (hph : s.ph = .step) (hlat : s.stepLatched = false) (hline : lv.stepN = false) (hrst : NoReset (lv :: rest))
    (hlen : rest.length = s.cfg.settle)
    (hop : ∀ lvl lat, selectSeq .stepSettle true lvl lat (latchRun (lv :: rest) s).ms = i) :
    runCycles (lv :: rest) s = .next (effect i ((latchRun (lv :: rest) s).pressStep.setTimer 0)) := by
  obtain ⟨hrstLv, hrstRest⟩ := List.forall_mem_cons.mp hrst
  have hlatch : latchRun rest (afterLatch lv s).pressStep = (latchRun (lv :: rest) s).pressStep :=
    latchRun_comm State.pressStep (fun _ _ => rfl) rest (afterLatch lv s)
  have hfire := runCycles_of_timed (s := (afterLatch lv s).pressStep) hw (.inr (.inl rfl)) hrstRest
    (hlen.trans (Nat.sub_add_cancel (Cfg.WellFormed.settle_pos s.cfg hw)).symm)
    (fun lv' => by rw [hlatch, seqOp_eq]; exact hop _ _)
  rw [runCycles_cons lv rest s _ (cycle_stepPress hw hrstLv hph hlat hline), hfire, hlatch]

/-- Settles O44: with the line inactive the motor state at the event is the one before the press. -/
theorem stepPressToggles : Obligations.StepPressToggles := by
  intro s lv rest hw hph hlat hline hrst hramp hlen
  have hlatch := latchRun_of_inactive s hramp
  have hfire {i : Instr} (hop : ∀ lvl lat, selectSeq .stepSettle true lvl lat s.ms = i) :
      runCycles (lv :: rest) s = .next (effect i (State.setTimer 0 (State.pressStep { s with rampPrev := true }))) := by
    rw [← hlatch]
    exact runCycles_stepPress hw hph hlat hline hrst hlen fun lvl lat => by rw [hlatch]; exact hop lvl lat
  refine ⟨fun hms => ?off, fun hms => ?on, fun hms => ?requested⟩
  case off =>
    have hon := hfire (i := .stepFireOn) fun _ _ => by rw [hms]; rfl
    exact hon.trans (congrArg _ (effect_of_wf .stepFireOn _ _ rfl hw))
  case on =>
    have hoff := hfire (i := .stepFireOff) fun _ _ => by rw [hms]; rfl
    exact hoff.trans (congrArg _ (effect_of_wf .stepFireOff _ _ rfl hw))
  case requested =>
    have hnop := hfire (i := .stepFireNop) fun _ _ => by obtain h | h := hms <;> rw [h] <;> rfl
    exact hnop.trans (congrArg _ (effect_of_wf .stepFireNop _ _ rfl hw))

/-! ## The PendingOff settle -/

/-- `DISPATCH` in PendingOff that finds the line inactive starts the settle delay (43_motor_state.md R114). -/
theorem cycle_poffRel {lv : Inputs} {s : State} (hw : s.cfg.WellFormed) (hrst : lv.rst = false)
    (hph : s.ph = .dispatch) (hms : s.ms = .pendingOff) (hline : lv.rampN = true) :
    cycle lv s = .next { s with rampPrev := true, timer := s.cfg.settle - 1, ph := .poffSettle } := by
  have hlatch := afterLatch_of_inactive s hline
  have hop : seqOp lv (afterLatch lv s) = .poffRel := by
    simp [hlatch, seqOp_eq, phaseLine, lineRead, selectSeq, hph, hms, hline]
  rw [cycle_eq_seq lv s hw hrst, hop, effect_poffRel (afterLatch lv s) hw, hlatch]
  exact congrArg _ (State.startDelay_settle .poffSettle { s with rampPrev := true } hw)

/-- Settles O45: the settle delay runs out in PendingOff, in which edges are lost, and `POFF_FIRE` ends it. -/
theorem pendingOffShutsDown : Obligations.PendingOffShutsDown := by
  intro s lv rest hw hph hms hline hrst hlen
  obtain ⟨hrstLv, hrstRest⟩ := List.forall_mem_cons.mp hrst
  obtain ⟨prev, hlatch⟩ := exists_latchRun_of_requested rest
    (s := { s with rampPrev := true, timer := s.cfg.settle - 1, ph := .poffSettle }) (.inr hms)
  have hfire := runCycles_of_timed (s := { s with rampPrev := true, timer := s.cfg.settle - 1, ph := .poffSettle })
    (i := .poffFire) hw (.inr (.inr (.inl rfl))) hrstRest
    (hlen.trans (Nat.sub_add_cancel (Cfg.WellFormed.settle_pos s.cfg hw)).symm)
    (fun lv' => by rw [hlatch, seqOp_eq]; rfl)
  rw [← runCycles_cons lv rest s _ (cycle_poffRel hw hrstLv hph hms hline), hlatch] at hfire
  exact ⟨_, hfire.trans (congrArg _ (effect_of_wf .poffFire _ _ rfl hw)), rfl⟩

/-! ## Lines that stay active -/

/-- In PendingOff with the line active nothing leads to the settle delay or to a write of the motor (43_motor_state.md
R113, R119). -/
theorem SeqTurn.stuckRampLine {lv : Inputs} {u t : State} (h : SeqTurn lv u t) (hms : u.ms = .pendingOff)
    (hline : lv.rampN = false) (hr : ¬ u.InRamp) (hpoff : u.ph ≠ .poffSettle) :
    t.ms = .pendingOff ∧ ¬ t.InRamp ∧ t.ph ≠ .poffSettle ∧ t.motor = u.motor ∧ t.led = u.led := by
  cases h with
  | dispIdle _ hms' => exact absurd hms' (by simp [hms])
  | rampBegin _ hms' | stepFireOn _ _ hms' | stepFireOff _ _ hms' => cases hms.symm.trans hms'
  | poffRel _ _ hline' => cases hline.symm.trans hline'
  | poffFire hph => exact absurd hph hpoff
  | offPhase hph | skipOffPhase hph => exact absurd (.inl hph) hr
  | rampOffEnd hph => exact absurd (.inr hph) hr
  | wait => exact ⟨hms, hr, hpoff, rfl, rfl⟩
  | _ => exact ⟨hms, by simp [State.InRamp, State.pressTc, State.pressStep], nofun, rfl, rfl⟩

/-- Settles O46: every cycle stays in PendingOff, outside its settle delay, and keeps the outputs. -/
theorem stuckRampLineKeepsMotor : Obligations.StuckRampLineKeepsMotor := by
  intro s lvs hw hms hr hpoff hrst hline
  obtain ⟨t, hrun, hms', -, -, hout⟩ := exists_runCycles_of_invariant
    (fun u => u.ms = .pendingOff ∧ ¬ u.InRamp ∧ u.ph ≠ .poffSettle ∧ u.motor = s.motor ∧ u.led = s.led)
    (fun lv hlv u hw ⟨hms, hr, hpoff, hmotor, hled⟩ => by
      have hturn := cycleEffect_turn lv hw
      rw [afterLatch_of_requested lv (.inr hms)] at hturn
      rw [← hmotor, ← hled]
      exact hturn.stuckRampLine hms (hline lv hlv) hr hpoff)
    hw hrst ⟨hms, hr, hpoff, rfl, rfl⟩
  exact ⟨t, hrun, hms', hout⟩

/-- While the Timing-Change line is held, an accepted press is neither repeated nor released (42_debounce.md R92). -/
theorem SeqTurn.tcHeld_frame {lv : Inputs} {u t : State} (h : SeqTurn lv u t) (hline : lv.tcN = false)
    (hlat : u.tcLatched = true) (hph : u.ph ≠ .tcSettle) :
    t.pidx = u.pidx ∧ t.tcLatched = true ∧ t.ph ≠ .tcSettle := by
  have hhead {j : Nat} {v : State} (hloop : LoopHead j v t) (hpidx : v.pidx = u.pidx) (hv : v.tcLatched = u.tcLatched) :
      t.pidx = u.pidx ∧ t.tcLatched = true ∧ t.ph ≠ .tcSettle := by
    cases hloop <;> exact ⟨hpidx, hv.trans hlat, nofun⟩
  cases h with
  | rampBegin _ _ hloop | skipOffPhase _ _ _ hloop | rampOffEnd _ _ hloop => exact hhead hloop rfl rfl
  | tcPress _ _ hlat' => cases hlat.symm.trans hlat'
  | tcRelease _ hline' => cases hline.symm.trans hline'
  | tcFire hph' => exact absurd hph' hph
  | wait => exact ⟨rfl, hlat, hph⟩
  | _ => exact ⟨rfl, hlat, nofun⟩

/-- While the Step line is held, an accepted press is neither repeated nor released (42_debounce.md R97). -/
theorem SeqTurn.stepHeld_frame {lv : Inputs} {u t : State} (h : SeqTurn lv u t) (hline : lv.stepN = false)
    (hlat : u.stepLatched = true) (hph : u.ph ≠ .stepSettle) : t.stepLatched = true ∧ t.ph ≠ .stepSettle := by
  have hhead {j : Nat} {v : State} (hloop : LoopHead j v t) (hv : v.stepLatched = u.stepLatched) :
      t.stepLatched = true ∧ t.ph ≠ .stepSettle := by
    cases hloop <;> exact ⟨hv.trans hlat, nofun⟩
  cases h with
  | rampBegin _ _ hloop | skipOffPhase _ _ _ hloop | rampOffEnd _ _ hloop => exact hhead hloop rfl
  | stepPress _ _ hlat' => cases hlat.symm.trans hlat'
  | stepRelease _ hline' => cases hline.symm.trans hline'
  | wait => exact ⟨hlat, hph⟩
  | _ => exact ⟨hlat, nofun⟩

/-- Settles O50: the latch of a held line stays set, and a set latch lets no press be accepted. -/
theorem oneEventPerPress : Obligations.OneEventPerPress := by
  refine fun s lvs hw hrst => ⟨fun hlat hph hline => ?tc, fun hlat hph hline => ?step⟩
  case tc =>
    exact exists_runCycles_of_invariant (fun u => u.pidx = s.pidx ∧ u.tcLatched = true ∧ u.ph ≠ .tcSettle)
      (fun lv hlv u hw ⟨hpidx, hlat, hph⟩ =>
        hpidx ▸ (cycleEffect_turn lv hw).tcHeld_frame (hline lv hlv) hlat hph)
      hw hrst ⟨rfl, hlat, hph⟩
  case step =>
    exact exists_runCycles_of_invariant (fun u => u.stepLatched = true ∧ u.ph ≠ .stepSettle)
      (fun lv hlv u hw ⟨hlat, hph⟩ => (cycleEffect_turn lv hw).stepHeld_frame (hline lv hlv) hlat hph)
      hw hrst ⟨hlat, hph⟩

/-! ## The idle iteration -/

/-- `DISPATCH` with nothing requested, by the motor state the latch leaves (43_motor_state.md R112). -/
theorem cycle_dispIdle {lv : Inputs} {s : State} (hw : s.cfg.WellFormed) (hrst : lv.rst = false)
    (hph : s.ph = .dispatch) (hms : (afterLatch lv s).ms = .off ∨ (afterLatch lv s).ms = .on) :
    cycle lv s = .next { afterLatch lv s with ph := .tc } := by
  have hop : seqOp lv (afterLatch lv s) = .dispIdle := by
    have hph' : (afterLatch lv s).ph = .dispatch := hph
    rw [seqOp_eq, hph']
    obtain h | h := hms <;> rw [h] <;> rfl
  rw [cycle_eq_seq lv s hw hrst, hop, effect_dispIdle (afterLatch lv s) hw]
  rfl

/-- A poll of the Step line that finds it inactive (42_debounce.md R98). -/
theorem cycle_stepRelease {lv : Inputs} {s : State} (hw : s.cfg.WellFormed) (hrst : lv.rst = false)
    (hph : s.ph = .step) (hline : lv.stepN = true) :
    cycle lv s = .next { afterLatch lv s with stepLatched := false, ph := .dispatch } := by
  have hop : seqOp lv (afterLatch lv s) = .stepRelease := by
    simp [seqOp_eq, afterLatch, phaseLine, lineRead, selectSeq, hph, hline]
  rw [cycle_eq_seq lv s hw hrst, hop, effect_stepRelease (afterLatch lv s) hw]
  rfl

/-- Settles O49: `DISP_IDLE` and the releases of the two polls, with no edge. -/
theorem idleIterationIsThreeCycles : Obligations.IdleIterationIsThreeCycles := by
  intro s a b c hw hph hms hrst hramp htc hstep
  simp only [List.forall_mem_cons] at hrst hramp
  obtain ⟨hrstA, hrstB, hrstC, -⟩ := hrst
  obtain ⟨hrampA, hrampB, hrampC, -⟩ := hramp
  have hidle : cycle a s = .next { s with rampPrev := true, ph := .tc } := by
    have hlatch := afterLatch_of_inactive s hrampA
    rw [cycle_dispIdle hw hrstA hph (hlatch ▸ hms), hlatch]
  have htcPoll : cycle b { s with rampPrev := true, ph := .tc } =
      .next { s with rampPrev := true, tcLatched := false, ph := .step } := by
    rw [cycle_tcRelease (s := { s with rampPrev := true, ph := .tc }) hw hrstB rfl htc, afterLatch_of_inactive _ hrampB]
  have hstepPoll : cycle c { s with rampPrev := true, tcLatched := false, ph := .step } =
      .next { s with rampPrev := true, tcLatched := false, stepLatched := false, ph := .dispatch } := by
    rw [cycle_stepRelease (s := { s with rampPrev := true, tcLatched := false, ph := .step }) hw hrstC rfl hstep,
      afterLatch_of_inactive _ hrampC]
  rw [runCycles_cons a [b, c] s _ hidle, runCycles_cons b [c] _ _ htcPoll, runCycles_cons c [] _ _ hstepPoll, hph]
  rfl

/-! ## From an edge to `DISPATCH` -/

/-- The phases of the two button channels. -/
abbrev State.InButtons (s : State) : Prop := s.ph = .tc ∨ s.ph = .tcSettle ∨ s.ph = .step ∨ s.ph = .stepSettle

/-- The most cycles the two channels can take from here to `DISPATCH`: a press of each still to come, or what is left
of a settle delay (70_reset_and_hazards.md R195). -/
def State.dispatchBound (s : State) : Nat :=
  match s.ph with
  | .tc => s.cfg.settle + 1 + (s.cfg.settle + 1)
  | .tcSettle => s.timer + 1 + (s.cfg.settle + 1)
  | .step => s.cfg.settle + 1
  | .stepSettle => s.timer + 1
  | .dispatch | .poffSettle | .rampOn | .rampOff => 0

/-- With a ramp or a shutdown requested, a turn in a button channel keeps the request and comes nearer to `DISPATCH`. -/
theorem SeqTurn.dispatchBound_lt {lv : Inputs} {u t : State} (h : SeqTurn lv u t) (hw : u.cfg.WellFormed)
    (hms : u.ms = .rampingUp ∨ u.ms = .pendingOff) (hph : u.InButtons) :
    t.ms = u.ms ∧ (t.ph = .dispatch ∨ t.InButtons) ∧ t.dispatchBound < u.dispatchBound := by
  have hpos := Cfg.WellFormed.settle_pos u.cfg hw
  cases h with
  | dispIdle h | rampBegin h | poffHeld h | poffRel h | poffFire h | offPhase h | skipOffPhase h | rampOffEnd h =>
    simp [State.InButtons, h] at hph
  | tcPress h =>
    refine ⟨rfl, .inr (.inr (.inl rfl)), ?_⟩
    simp only [State.dispatchBound, State.pressTc, h]
    omega
  | tcHeld h | tcRelease h =>
    refine ⟨rfl, .inr (.inr (.inr (.inl rfl))), ?_⟩
    simp only [State.dispatchBound, h]
    omega
  | tcFire h =>
    refine ⟨rfl, .inr (.inr (.inr (.inl rfl))), ?_⟩
    simp only [State.dispatchBound, h]
    omega
  | stepPress h =>
    refine ⟨rfl, .inr (.inr (.inr (.inr rfl))), ?_⟩
    simp only [State.dispatchBound, State.pressStep, h]
    omega
  | stepHeld h | stepRelease h | stepFireNop h =>
    refine ⟨rfl, .inl rfl, ?_⟩
    simp only [State.dispatchBound, h]
    omega
  | stepFireOn _ _ h | stepFireOff _ _ h => simp [h] at hms
  | wait htimed htimer =>
    refine ⟨rfl, .inr hph, ?_⟩
    obtain h | h | h | h | h := htimed
    · simp only [State.dispatchBound, h]
      omega
    · simp only [State.dispatchBound, h]
      omega
    all_goals simp [State.InButtons, h] at hph

theorem State.dispatchBound_pos {s : State} (h : s.InButtons) : 0 < s.dispatchBound := by
  unfold State.dispatchBound
  obtain h | h | h | h := h <;> simp [h]

/-- A requested ramp or shutdown finds a `DISPATCH` cycle within the bound, whatever the lines do. -/
theorem exists_dispatch_within {bound : Nat} {lvs : List Inputs} {s : State} (hw : s.cfg.WellFormed)
    (hms : s.ms = .rampingUp ∨ s.ms = .pendingOff) (hph : s.ph = .dispatch ∨ s.InButtons) (hrst : NoReset lvs)
    (hbound : s.dispatchBound ≤ bound) (hlen : bound ≤ lvs.length) :
    ∃ k t, k ≤ bound ∧ runCycles (lvs.take k) s = .next t ∧ t.ph = .dispatch ∧ t.ms = s.ms := by
  induction lvs generalizing s bound with
  | nil =>
    obtain hdispatch | hbuttons := hph
    · exact ⟨0, s, Nat.zero_le _, rfl, hdispatch, rfl⟩
    · have hzero : bound ≤ 0 := hlen
      exact absurd (State.dispatchBound_pos hbuttons) (by omega)
  | cons lv rest ih =>
    obtain hdispatch | hbuttons := hph
    · exact ⟨0, s, Nat.zero_le _, rfl, hdispatch, rfl⟩
    obtain ⟨hrstLv, hrstRest⟩ := List.forall_mem_cons.mp hrst
    have hturn := cycleEffect_turn lv hw
    rw [afterLatch_of_requested lv hms] at hturn
    obtain ⟨hms', hph', hlt⟩ : (cycleEffect lv s).ms = s.ms ∧ _ ∧ (cycleEffect lv s).dispatchBound < s.dispatchBound :=
      hturn.dispatchBound_lt hw hms hbuttons
    rw [List.length_cons] at hlen
    obtain ⟨k, t, hk, hrun, ht, htms⟩ := ih (bound := bound - 1) (s := cycleEffect lv s)
      ((cycleEffect_cfg lv s hw).symm ▸ hw) (hms'.symm ▸ hms) hph' hrstRest (by omega) (by omega)
    refine ⟨k + 1, t, by omega, ?_, ht, htms.trans hms'⟩
    rw [List.take_succ_cons, runCycles_cons lv _ s _ (cycle_run lv s hrstLv hw), hrun]

/-- In Off and On nothing runs but `DISPATCH` and the two channels (10_state.md R24). -/
theorem State.Inv.inButtons {s : State} (h : s.Inv) (hms : s.ms = .off ∨ s.ms = .on) :
    s.ph = .dispatch ∨ s.InButtons := by
  have hramp (hr : s.InRamp) : False := by
    obtain ⟨hup, -⟩ := h.inRamp hr
    simp [hup] at hms
  obtain ⟨-, -, -, hpoff, -⟩ := h
  cases hph : s.ph with
  | dispatch => exact .inl rfl
  | poffSettle => simp [hpoff hph] at hms
  | rampOn => exact (hramp (.inl hph)).elim
  | rampOff => exact (hramp (.inr hph)).elim
  | tc | tcSettle | step | stepSettle => simp [State.InButtons, hph]

/-- A settle delay in progress has less than `SETTLE` to go, by INV7. -/
theorem State.Inv.dispatchBound_le {s : State} (h : s.Inv) : s.dispatchBound ≤ 2 * s.cfg.settle + 2 := by
  obtain ⟨-, -, -, -, -, -, ⟨hsettle, -⟩⟩ := h
  unfold State.dispatchBound
  cases hph : s.ph with
  | tcSettle =>
    have := hsettle (.inl hph)
    simp only
    omega
  | stepSettle =>
    have := hsettle (.inr (.inl hph))
    simp only
    omega
  | dispatch | tc | step | poffSettle | rampOn | rampOff =>
    simp only
    omega

/-- Settles O51: the edge is latched in its own cycle, and from then on every cycle comes nearer to `DISPATCH`. -/
theorem edgeToDispatchBounded : Obligations.EdgeToDispatchBounded := by
  intro s lv rest hw hinv hms hprev hnow hrst hlen
  obtain hdispatch | hbuttons := hinv.inButtons hms
  · exact ⟨0, s, Nat.zero_le _, rfl, hdispatch, .inl rfl⟩
  obtain ⟨hrstLv, hrstRest⟩ := List.forall_mem_cons.mp hrst
  have hlatch : latchMs true s.ms = if s.ms = .off then .rampingUp else .pendingOff := by
    obtain h | h := hms <;> rw [h] <;> rfl
  have hrequested : latchMs true s.ms = .rampingUp ∨ latchMs true s.ms = .pendingOff := by
    obtain h | h := hms <;> simp [h, latchMs]
  have hturn := cycleEffect_turn lv hw
  rw [afterLatch_of_edge hprev hnow] at hturn
  obtain ⟨hms', hph', hlt⟩ : (cycleEffect lv s).ms = latchMs true s.ms ∧ _ ∧
      (cycleEffect lv s).dispatchBound < s.dispatchBound := hturn.dispatchBound_lt hw hrequested hbuttons
  have hbound := hinv.dispatchBound_le
  obtain ⟨k, t, hk, hrun, ht, htms⟩ := exists_dispatch_within (bound := 2 * s.cfg.settle + 1)
    ((cycleEffect_cfg lv s hw).symm ▸ hw) (hms'.symm ▸ hrequested) hph' hrstRest (by omega) hlen.ge
  refine ⟨k + 1, t, by omega, ?_, ht, .inr (htms.trans (hms'.trans hlatch))⟩
  rw [List.take_succ_cons, runCycles_cons lv _ s _ (cycle_run lv s hrstLv hw), hrun]

end Sys2Proof.Machine

/-!
The PWM waveform (44_ramp_engine.md R142). From the first cycle of a ramp on each state is a function of the state the
ramp began in and the number of cycles since, but for the edge memory.
-/
namespace Sys2Proof

/-- An indicator of a well-formed preset is not reached before the first step (44_ramp_engine.md R133). -/
theorem Preset.WellFormed.threshold_pos {period : Nat} {r : Preset} (h : r.WellFormed period) (k : Fin 4) :
    ¬ r.threshold k ≤ 0 := by
  have hstep : 1 * 1 ≤ r.n * (k.val + 1) := Nat.mul_le_mul h.hasStep (Nat.le_add_left 1 k.val)
  rw [h.threshold_eq k, ceilFifth_le_iff]
  omega

/-- An on-time within the period leaves the rest of it as the off-time (44_ramp_engine.md R132). -/
theorem Preset.offTicks_eq_sub {r : Preset} {period i : Nat} (h : r.onTicks i ≤ period) :
    r.offTicks period i = period - r.onTicks i :=
  Nat.eq_sub_of_add_eq' (Preset.onTicks_add_offTicks h)

end Sys2Proof

namespace Sys2Proof.Machine

/-! ## Turns of the ramp engine -/

theorem State.rampTurn_wait {s : State} (hw : s.cfg.WellFormed) (hr : s.InRamp) (htimer : s.timer ≠ 0) :
    s.rampTurn = s.setTimer (s.timer - 1) :=
  effect_seqOp_of_timed default hw (.inr (.inr (.inr hr))) htimer

theorem State.rampTurn_rampOnEnd {s : State} (hw : s.cfg.WellFormed) (hph : s.ph = .rampOn) (htimer : s.timer = 0) :
    s.rampTurn = s.endOnPhase (s.preset.offTicks s.cfg.period s.i) := by
  have hop : seqOp default s = .rampOnEnd := by rw [seqOp_eq, hph, htimer]; rfl
  rw [State.rampTurn, hop, effect_rampOnEnd s hw]

theorem State.rampTurn_rampOffEnd {s : State} (hw : s.cfg.WellFormed) (hph : s.ph = .rampOff) (htimer : s.timer = 0) :
    s.rampTurn = s.beginCycle (s.i + 1) := by
  have hop : seqOp default s = .rampOffEnd := by rw [seqOp_eq, hph, htimer]; rfl
  rw [State.rampTurn, hop, effect_rampOffEnd s hw]

/-! ## The states of a ramp -/

/-- LED0 is on from the first PWM cycle (44_ramp_engine.md R135). -/
theorem ledStagger_ledBegin_bit_zero (r : Preset) (j : Nat) (led : BitVec 5) :
    (ledStagger r j (ledBegin led)).getLsbD 0 = true := by
  rw [ledStagger_bit_zero, ledBegin_bit_zero]

/-- LED(k+1) is on from the PWM cycle of its threshold (44_ramp_engine.md R134). -/
theorem ledStagger_ledBegin_bit_succ (r : Preset) (j : Nat) (led : BitVec 5) (k : Fin 4) :
    (ledStagger r j (ledBegin led)).getLsbD (k.val + 1) = (led.getLsbD (k.val + 1) || decide (r.threshold k ≤ j)) := by
  rw [ledStagger_bit_succ, ledBegin_bit_succ]

/-- Cycle `k` of PWM cycle `j` of the ramp begun in `s`: high for the on-time, low for the rest of the period. -/
def State.pwmAt (s : State) (j k : Nat) : State :=
  { s with
    i := j, led := ledStagger s.preset j (ledBegin s.led), motor := decide (k < s.preset.onTicks j)
    ph := if k < s.preset.onTicks j then .rampOn else .rampOff
    timer := (if k < s.preset.onTicks j then s.preset.onTicks j else s.cfg.period) - 1 - k }

theorem State.pwmAt_inRamp (s : State) (j k : Nat) : (s.pwmAt j k).InRamp := by
  by_cases h : k < s.preset.onTicks j
  · exact .inl (if_pos h)
  · exact .inr (if_neg h)

theorem State.pwmAt_on {s : State} {j k : Nat} (h : k < s.preset.onTicks j) :
    s.pwmAt j k = { s with
      i := j, led := ledStagger s.preset j (ledBegin s.led), motor := true, ph := .rampOn
      timer := s.preset.onTicks j - 1 - k } := by
  rw [State.pwmAt, if_pos h, if_pos h, decide_eq_true h]

theorem State.pwmAt_off {s : State} {j k : Nat} (h : s.preset.onTicks j ≤ k) :
    s.pwmAt j k = { s with
      i := j, led := ledStagger s.preset j (ledBegin s.led), motor := false, ph := .rampOff
      timer := s.cfg.period - 1 - k } := by
  rw [State.pwmAt, if_neg h.not_gt, if_neg h.not_gt, decide_eq_false h.not_gt]

theorem State.pwmAt_timer_on {s : State} {j k : Nat} (h : k < s.preset.onTicks j) :
    (s.pwmAt j k).timer = s.preset.onTicks j - 1 - k := by rw [State.pwmAt_on h]

theorem State.pwmAt_timer_off {s : State} {j k : Nat} (h : s.preset.onTicks j ≤ k) :
    (s.pwmAt j k).timer = s.cfg.period - 1 - k := by rw [State.pwmAt_off h]

theorem State.pwmAt_timer_ne_zero {s : State} {j k : Nat} (hk : k + 1 < s.cfg.period)
    (hend : k + 1 ≠ s.preset.onTicks j) : (s.pwmAt j k).timer ≠ 0 := by
  rcases Nat.lt_or_ge k (s.preset.onTicks j) with hon | hoff
  · rw [State.pwmAt_timer_on hon]
    omega
  · rw [State.pwmAt_timer_off hoff]
    omega

/-- Within a PWM cycle the sequencer counts, and turns from the on-phase to the off-phase. -/
theorem State.rampTurn_pwmAt {s : State} {j k : Nat} (hw : s.cfg.WellFormed) (hj : 1 ≤ j) (hn : j < s.preset.n)
    (hk : k + 1 < s.cfg.period) : (s.pwmAt j k).rampTurn = s.pwmAt j (k + 1) := by
  obtain ⟨-, hle⟩ := s.onTicks_bounds hw j hj hn
  have hwait (h : k + 1 ≠ s.preset.onTicks j) :
      (s.pwmAt j k).rampTurn = (s.pwmAt j k).setTimer ((s.pwmAt j k).timer - 1) :=
    State.rampTurn_wait (s := s.pwmAt j k) hw (s.pwmAt_inRamp j k) (State.pwmAt_timer_ne_zero hk h)
  rcases Nat.lt_trichotomy (k + 1) (s.preset.onTicks j) with hon | hend | hoff
  · rw [hwait hon.ne, State.pwmAt_on (Nat.lt_of_succ_lt hon), State.pwmAt_on hon]
    rfl
  · have hon : k < s.preset.onTicks j := Nat.lt_of_succ_le hend.le
    have hout : s.preset.offTicks s.cfg.period j ≠ 0 := by rw [Preset.offTicks_eq_sub hle]; omega
    have htimer : s.cfg.period - s.preset.onTicks j - 1 = s.cfg.period - 1 - (k + 1) := by omega
    have hzero : (s.pwmAt j k).timer = 0 := by rw [State.pwmAt_timer_on hon]; omega
    have hturn := State.rampTurn_rampOnEnd (s := s.pwmAt j k) hw (if_pos hon) hzero
    rw [hturn.trans (State.endOnPhase_of_ne_zero _ hout), State.pwmAt_off hend.ge, ← htimer,
      ← Preset.offTicks_eq_sub hle]
    rfl
  · rw [hwait hoff.ne', State.pwmAt_off (Nat.le_of_lt_succ hoff), State.pwmAt_off hoff.le]
    rfl

/-- The last turn of a PWM cycle is the loop head for the next step, with an off-phase or without. -/
theorem State.rampTurn_pwmAt_last {s : State} {j k : Nat} (hw : s.cfg.WellFormed) (hj : 1 ≤ j) (hn : j < s.preset.n)
    (hk : k + 1 = s.cfg.period) : (s.pwmAt j k).rampTurn = (s.pwmAt j k).beginCycle (j + 1) := by
  obtain ⟨-, hle⟩ := s.onTicks_bounds hw j hj hn
  rcases Nat.lt_or_ge k (s.preset.onTicks j) with hon | hoff
  · have hout : s.preset.offTicks s.cfg.period j = 0 := by rw [Preset.offTicks_eq_sub hle]; omega
    have hzero : (s.pwmAt j k).timer = 0 := by rw [State.pwmAt_timer_on hon]; omega
    have hturn := State.rampTurn_rampOnEnd (s := s.pwmAt j k) hw (if_pos hon) hzero
    exact hturn.trans ((congrArg (State.endOnPhase · (s.pwmAt j k)) hout).trans (State.endOnPhase_zero _))
  · have hzero : (s.pwmAt j k).timer = 0 := by rw [State.pwmAt_timer_off hoff]; omega
    exact State.rampTurn_rampOffEnd (s := s.pwmAt j k) hw (if_neg hoff.not_gt) hzero

theorem State.beginCycle_pwmAt {s : State} {j k : Nat} (hw : s.cfg.WellFormed) (hn : j + 1 < s.preset.n) :
    (s.pwmAt j k).beginCycle (j + 1) = s.pwmAt (j + 1) 0 := by
  obtain ⟨hon, -⟩ := s.onTicks_bounds hw (j + 1) (Nat.le_add_left 1 j) hn
  have hled := ledStagger_ledStagger s.preset j (ledBegin s.led)
  rw [State.beginCycle_cycle (j + 1) (s.pwmAt j k) hn hon, State.pwmAt_on hon, ← hled]
  rfl

/-- Cycle `m` of the ramp begun in `s`, the first being the one after `RAMP_BEGIN`. -/
def State.rampAt (s : State) (m : Nat) : State := s.pwmAt (m / s.cfg.period + 1) (m % s.cfg.period)

theorem State.rampAt_eq {s : State} {j k m : Nat} (hk : k < s.cfg.period) (hm : k + s.cfg.period * j = m) :
    s.rampAt m = s.pwmAt (j + 1) k := by
  obtain ⟨hdiv, hmod⟩ := (Nat.div_mod_unique (Nat.zero_lt_of_lt hk)).mpr ⟨hm, hk⟩
  rw [State.rampAt, hdiv, hmod]

/-- Each cycle of a ramp is in one of its PWM cycles. -/
theorem exists_pwmAt {s : State} {m : Nat} (hw : s.cfg.WellFormed) (hm : m < s.cfg.period * (s.preset.n - 1)) :
    ∃ j k, j + 1 < s.preset.n ∧ k < s.cfg.period ∧ k + s.cfg.period * j = m := by
  refine ⟨m / s.cfg.period, m % s.cfg.period, ?_, Nat.mod_lt m hw.periodPos, Nat.mod_add_div m _⟩
  exact Nat.add_lt_of_lt_sub (Nat.div_lt_of_lt_mul hm)

theorem State.rampTurn_rampAt {s : State} {m : Nat} (hw : s.cfg.WellFormed)
    (hm : m + 1 < s.cfg.period * (s.preset.n - 1)) : (s.rampAt m).rampTurn = s.rampAt (m + 1) := by
  obtain ⟨j, k, hn, hk, hjk⟩ := exists_pwmAt hw (Nat.lt_of_succ_lt hm)
  rw [State.rampAt_eq hk hjk]
  rcases Nat.lt_or_ge (k + 1) s.cfg.period with hnext | hlast
  · rw [State.rampTurn_pwmAt hw (Nat.le_add_left 1 j) hn hnext, State.rampAt_eq (j := j) hnext (by omega)]
  · have hwrap : 0 + s.cfg.period * (j + 1) = m + 1 := by
      rw [Nat.mul_succ]
      omega
    have hn' : j + 1 < s.preset.n - 1 := by
      rw [← hwrap, Nat.zero_add] at hm
      exact Nat.lt_of_mul_lt_mul_left hm
    rw [State.rampTurn_pwmAt_last hw (Nat.le_add_left 1 j) hn (by omega), State.beginCycle_pwmAt hw (by omega),
      State.rampAt_eq hw.periodPos hwrap]

/-- The last turn of the last PWM cycle completes the ramp. -/
theorem State.rampTurn_rampAt_last {s : State} {m : Nat} (hw : s.cfg.WellFormed) (hn : 1 < s.preset.n)
    (hm : m + 1 = s.cfg.period * (s.preset.n - 1)) :
    (s.rampAt m).rampTurn = { s.rampAt m with i := s.preset.n, motor := true, ms := .on, ph := .tc } ∧
      (s.rampAt m).led = ledStagger s.preset (s.preset.n - 1) (ledBegin s.led) := by
  have hperiod := hw.periodPos
  obtain ⟨j, hj⟩ : ∃ j, s.preset.n = j + 1 + 1 := ⟨s.preset.n - 2, by omega⟩
  have hindex : s.cfg.period - 1 + s.cfg.period * j = m := by
    rw [hj, Nat.add_sub_cancel, Nat.mul_succ] at hm
    omega
  rw [State.rampAt_eq (j := j) (by omega) hindex]
  refine ⟨?_, by rw [hj]; rfl⟩
  rw [State.rampTurn_pwmAt_last hw (Nat.le_add_left 1 j) (by omega) (by omega),
    State.beginCycle_exit (j + 1 + 1) (s.pwmAt (j + 1) (s.cfg.period - 1)) hj.le, hj]

/-! ## Runs of a ramp -/

/-- A ramp of two steps or more begins its first PWM cycle (44_ramp_engine.md R135). -/
theorem cycle_rampBegin {lv : Inputs} {s : State} (hw : s.cfg.WellFormed) (hph : s.ph = .dispatch)
    (hms : s.ms = .rampingUp) (hn : 1 < s.preset.n) (hrst : lv.rst = false) :
    cycle lv s = .next ((s.rampAt 0).setRampPrev lv.rampN) := by
  obtain ⟨hon, -⟩ := s.onTicks_bounds hw 1 le_rfl hn
  have hlatch : afterLatch lv s = s.setRampPrev lv.rampN := afterLatch_of_requested lv (.inl hms)
  rw [cycle_eq_seq lv s hw hrst, hlatch, seqOp_dispatch_rampingUp lv (s := s.setRampPrev lv.rampN) hph hms,
    effect_rampBegin_cycle (s.setRampPrev lv.rampN) hw hn,
    State.rampAt_eq (j := 0) (m := 0) hw.periodPos rfl, State.pwmAt_on hon]
  rfl

/-- A ramp of one step is complete where it begins (44_ramp_engine.md R134, R135). -/
theorem cycle_rampBegin_exit {lv : Inputs} {s : State} (hw : s.cfg.WellFormed) (hph : s.ph = .dispatch)
    (hms : s.ms = .rampingUp) (hn : s.preset.n = 1) (hrst : lv.rst = false) :
    cycle lv s = .next { s with
      led := ledBegin s.led, i := 1, motor := true, ms := .on, ph := .tc, rampPrev := lv.rampN } := by
  have hlatch : afterLatch lv s = s.setRampPrev lv.rampN := afterLatch_of_requested lv (.inl hms)
  rw [cycle_eq_seq lv s hw hrst, hlatch, seqOp_dispatch_rampingUp lv (s := s.setRampPrev lv.rampN) hph hms,
    effect_rampBegin_exit (s.setRampPrev lv.rampN) hw hn]
  rfl

/-- A cycle of a ramp in progress is the sequencer's turn, whatever the lines do. -/
theorem cycle_rampAt (lv : Inputs) {s : State} (m : Nat) (prev : Bool) (hw : s.cfg.WellFormed) (hms : s.ms = .rampingUp)
    (hrst : lv.rst = false) :
    cycle lv ((s.rampAt m).setRampPrev prev) = .next ((s.rampAt m).rampTurn.setRampPrev lv.rampN) := by
  have hturn : ((s.rampAt m).setRampPrev prev).rampTurn = (s.rampAt m).rampTurn.setRampPrev prev :=
    effect_setRampPrev (decodeSsel_ne_reset _) prev (s.rampAt m) hw
  rw [cycle_inRamp (s := (s.rampAt m).setRampPrev prev) hw hms (s.pwmAt_inRamp _ _) hrst, hturn]
  rfl

/-- A ramp in progress goes on, whatever the lines do. -/
theorem exists_runCycles_rampAt {lvs : List Inputs} {s : State} {m : Nat} (prev : Bool) (hw : s.cfg.WellFormed)
    (hms : s.ms = .rampingUp) (hrst : NoReset lvs) (hm : m + lvs.length < s.cfg.period * (s.preset.n - 1)) :
    ∃ prev', runCycles lvs ((s.rampAt m).setRampPrev prev) = .next ((s.rampAt (m + lvs.length)).setRampPrev prev') := by
  induction lvs generalizing m prev with
  | nil => exact ⟨prev, rfl⟩
  | cons lv rest ih =>
    obtain ⟨hrstLv, hrstRest⟩ := List.forall_mem_cons.mp hrst
    have hcount : m + (lv :: rest).length = m + 1 + rest.length := by
      rw [List.length_cons]
      omega
    rw [hcount] at hm ⊢
    rw [runCycles_cons lv rest _ _ (cycle_rampAt lv m prev hw hms hrstLv), State.rampTurn_rampAt hw (by omega)]
    exact ih lv.rampN hrstRest hm

/-- The ramp from its `RAMP_BEGIN` cycle on. -/
theorem exists_runCycles_ramp {lvs : List Inputs} {s : State} {m : Nat} (hw : s.cfg.WellFormed) (hph : s.ph = .dispatch)
    (hms : s.ms = .rampingUp) (hrst : NoReset lvs) (hlen : lvs.length = 1 + m)
    (hm : m < s.cfg.period * (s.preset.n - 1)) :
    ∃ prev, runCycles lvs s = .next ((s.rampAt m).setRampPrev prev) := by
  have hn : 1 < s.preset.n := by
    have := Nat.pos_of_lt_mul_left hm
    omega
  cases lvs with
  | nil => simp at hlen; omega
  | cons lv rest =>
    obtain ⟨hrstLv, hrstRest⟩ := List.forall_mem_cons.mp hrst
    obtain rfl : rest.length = m := by
      rw [List.length_cons] at hlen
      omega
    rw [runCycles_cons lv rest s _ (cycle_rampBegin hw hph hms hn hrstLv)]
    simpa using exists_runCycles_rampAt (m := 0) lv.rampN hw hms hrstRest (by omega)

/-! ## The statements -/

/-- Settles O47: the run leads to cycle k of PWM cycle j, whose motor level, phase and indicators are written down. -/
theorem pwmWaveform : Obligations.PwmWaveform := by
  intro s lvs j k hw hph hms hj hn hk hlen hrst
  have hcycle : k + s.cfg.period * (j - 1) = (j - 1) * s.cfg.period + k := by rw [Nat.mul_comm, Nat.add_comm]
  have hlt : (j - 1) * s.cfg.period + k < s.cfg.period * (s.preset.n - 1) :=
    calc (j - 1) * s.cfg.period + k
        < (j - 1) * s.cfg.period + s.cfg.period := Nat.add_lt_add_left hk _
      _ = s.cfg.period * (j - 1 + 1) := by rw [Nat.mul_succ, Nat.mul_comm]
      _ ≤ s.cfg.period * (s.preset.n - 1) := Nat.mul_le_mul_left _ (by omega)
  obtain ⟨prev, hrun⟩ := exists_runCycles_ramp hw hph hms hrst (by omega) hlt
  rw [State.rampAt_eq hk hcycle, Nat.sub_add_cancel hj] at hrun
  refine ⟨_, hrun, hms, rfl, rfl, decide_eq_true_iff, rfl, ?ledZero, fun m => ?ledSucc⟩
  case ledZero => exact ledStagger_ledBegin_bit_zero s.preset j s.led
  case ledSucc => exact ledStagger_ledBegin_bit_succ s.preset j s.led m

/-- Settles O48: a ramp of one step completes in its first cycle, a longer one in the last cycle of PWM cycle N - 1. -/
theorem rampCompletesOnTime : Obligations.RampCompletesOnTime := by
  intro s lvs hw hph hms hlen hrst
  have hr : s.preset.WellFormed s.cfg.period := Cfg.WellFormed.presetRead s.cfg hw s.pidx
  have hstep := hr.hasStep
  obtain ⟨init, last, rfl⟩ : ∃ init last, lvs = init ++ [last] := by
    obtain rfl | h := lvs.eq_nil_or_concat'
    · rw [List.length_nil] at hlen
      omega
    · exact h
  rw [List.length_append, List.length_singleton] at hlen
  obtain ⟨hrstInit, hrstLast⟩ := List.forall_mem_append.mp hrst
  have hrstLast' : last.rst = false := hrstLast last List.mem_cons_self
  by_cases hn : s.preset.n = 1
  · obtain rfl : init = [] := by
      rw [hn, Nat.sub_self, Nat.zero_mul] at hlen
      exact List.eq_nil_of_length_eq_zero (by omega)
    refine ⟨_, runCycles_cons last [] s _ (cycle_rampBegin_exit hw hph hms hn hrstLast'), rfl, rfl, rfl, hn.symm, rfl,
      rfl, rfl, ledBegin_bit_zero s.led, fun m => ?_⟩
    rw [ledBegin_bit_succ, hn, decide_eq_false (hr.threshold_pos m), Bool.or_false]
  · obtain ⟨m, hm⟩ : ∃ m, m + 1 = s.cfg.period * (s.preset.n - 1) :=
      Nat.exists_add_one_eq.mpr (Nat.mul_pos hw.periodPos (by omega))
    rw [Nat.mul_comm (s.preset.n - 1), ← hm] at hlen
    obtain ⟨prev, hrun⟩ := exists_runCycles_ramp hw hph hms hrstInit (m := m) (by omega) (by omega)
    obtain ⟨hturn, hled⟩ := State.rampTurn_rampAt_last hw (by omega) hm
    rw [runCycles_append init [last] s _ hrun, runCycles_cons last [] _ _ (cycle_rampAt last m prev hw hms hrstLast'),
      hturn]
    refine ⟨_, rfl, rfl, rfl, rfl, rfl, rfl, rfl, rfl, ?ledZero, fun m => ?ledSucc⟩
    case ledZero => exact (congrArg (BitVec.getLsbD · 0) hled).trans (ledStagger_ledBegin_bit_zero _ _ _)
    case ledSucc =>
      exact (congrArg (BitVec.getLsbD · (m.val + 1)) hled).trans (ledStagger_ledBegin_bit_succ _ _ _ m)

end Sys2Proof.Machine
